-- ==== Sys2Proof/Word.lean ====
section
/-! DEFINITION. The two widths of the hardware (spec 00_scope R6: registers and bus data are 8 bits, the program
counter and bus addresses 16) and the plain form in which every memory device is held. -/

namespace Sys2Proof

/-- A register or a bus datum: 8 bits, wrapping modulo 256 (R6). -/
abbrev Byte := BitVec 8

/-- The program counter or a bus address: 16 bits, wrapping modulo 65536 (R6, R24). -/
abbrev Word := BitVec 16

/-- The contents of one memory device by device index (R41 to R43), as a list of cells in one canonical form
(`Memory.wf` of Machine/Memory.lean). -/
abbrev Memory := List Host.Cell

end Sys2Proof
end

