-- ==== Sys2Proof/Config.lean ====
section
/-! DEFINITION. What one implementation fixes (spec 00_scope R7, R8) and the open collaborators of R10 (decisions D20 to
D23), which are uninterpreted: constants with no body, so that no proof can rest on what they answer. -/

namespace Sys2Proof

/-- The scroll offsets the port exposes (R10, R52): an opaque value, numbered. -/
structure ScrollOffsets where
  code : Nat
  deriving DecidableEq, Repr, Inhabited

/-- One row of rendered tiles (R50, D22): an opaque value, numbered. -/
structure TileRow where
  code : Nat
  deriving DecidableEq, Repr, Inhabited

/-- The sprite list handed out with a frame (R352, D23): an opaque value, numbered. -/
structure SpriteList where
  code : Nat
  deriving DecidableEq, Repr, Inhabited

/-- The register port's own state (R52, D20). `nmiEnable` is the projection `NmiEnable(port)`; `code` numbers everything
else the external port logic keeps. Log entry 3. -/
structure PortState where
  nmiEnable : Bool
  code : Nat
  deriving DecidableEq, Repr, Inhabited

/-- The keypad collaborator's state (R53, D21): opaque, numbered. -/
structure KeyState where
  code : Nat
  deriving DecidableEq, Repr, Inhabited

/-- The character buffer as a collaborator is given it (R9, R10): its bytes and its size, which may be any. -/
structure ChrBuffer where
  cells : Memory
  size : Nat
  deriving DecidableEq, Repr, Inhabited

/-- The triple `ppumem` of R10: the PPU memories the register port may read and write. -/
structure PpuMem where
  vram : Memory
  chr : ChrBuffer
  oam : Memory
  deriving DecidableEq, Repr, Inhabited

/-- The two line events the port is told of (R10). -/
inductive LineEvent where
  | vblankBegin
  | frameEnd
  deriving DecidableEq, Repr

/-- What a write to program ROM may be (R85, D16): the source allows the two. -/
inductive RomWrite where
  | ignore
  | fatal
  deriving DecidableEq, Repr

namespace Config

/-- `RAM_SIZE` (R8, D10). -/
abbrev ramSize : Nat := 0x0800

/-- First address above the work RAM window `0x0000..0x1FFF` (R8, R86, D10). -/
abbrev ramWindowEnd : Nat := 0x2000

/-- First address above `PPU_WINDOW`, `0x2000..0x3FFF` (R8, R82, D11). -/
abbrev ppuWindowEnd : Nat := 0x4000

/-- `DMA_ADDR` (R8, D12). -/
abbrev dmaAddr : Nat := 0x4014

/-- `KEYPAD_ADDR` (R8, D13). -/
abbrev keypadAddr : Nat := 0x4016

/-- `ROM_BASE`; the window runs to `0xFFFF` (R8, R85, D14). -/
abbrev romBase : Nat := 0x8000

/-- `ROM_WRITE` (R8, R85, D16): a write to program ROM is ignored. -/
abbrev romWrite : RomWrite := .ignore

/-- `FILL`, what an unmapped read returns (R7, R84, D17). -/
abbrev fill : Byte := 0x00

/-- The NMI vector's address (R8, D30). -/
abbrev nmiVector : Word := 0xFFFA

/-- The reset vector's address (R7). -/
abbrev resetVector : Word := 0xFFFC

/-- The IRQ/BRK vector's address (R7). -/
abbrev irqVector : Word := 0xFFFE

/-- `NMI_CYCLES` (R8, D30). -/
abbrev nmiCycles : Nat := 7

/-- `PAGE_CROSS_READ_PENALTY` (R8, R403, D41). `CYCLES[op]` is `Config.baseCycles` of Decode.lean. -/
abbrev pageCrossReadPenalty : Nat := 0

/-- `VRAM_SIZE` (R7). -/
abbrev vramSize : Nat := 0x2000

/-- `OAM_SIZE` (R8). -/
abbrev oamSize : Nat := 256

/-- `DMA_LEN` (R7). -/
abbrev dmaLen : Nat := 256

/-- `DMA_STALL` (R7). -/
abbrev dmaStall : Nat := 514

/-- `PPU_PER_CPU` (R7). -/
abbrev ppuPerCpu : Nat := 3

/-- `CYCLES_PER_LINE` (R7). -/
abbrev cyclesPerLine : Nat := 341

/-- `LINES_PER_FRAME` (R7). -/
abbrev linesPerFrame : Nat := 262

/-- The line at which vertical blank begins (R7). -/
abbrev vblankLine : Nat := 241

/-- The last line at which a tile row is built (R7). -/
abbrev lastTileLine : Nat := 240

/-- DESIGN CHOICE (log entry 1): what a cell that no list entry names reads as, in every memory device. -/
abbrev unlisted : Byte := 0x00

/-- `PortRead(ps, ppumem, r)` (R10, D20): a free value. -/
opaque portRead : PortState → PpuMem → BitVec 3 → Byte × PortState × PpuMem

/-- `PortWrite(ps, ppumem, r, v)` (R10, D20): a free value. -/
opaque portWrite : PortState → PpuMem → BitVec 3 → Byte → PortState × PpuMem

/-- `PortLineEvent(ps, e)` (R10, D20): a free value; `portLineEvent` of Machine/Ppu.lean keeps `NmiEnable` (R350). -/
opaque portLineEvent : PortState → LineEvent → PortState

/-- `Scroll(ps)` (R10): a free value. -/
opaque scroll : PortState → ScrollOffsets

/-- `KeyLatch(ks, keys)` (R10, D21): a free value. -/
opaque keyLatch : KeyState → Byte → KeyState

/-- `KeyRead(ks)` (R10, D21): a free value. -/
opaque keyRead : KeyState → Byte × KeyState

/-- `KeyWrite(ks, v)` (R10, D21): a free value. -/
opaque keyWrite : KeyState → Byte → KeyState

/-- `BuildTileRow(VRAM, CHR, MIRROR_H, Scroll, row)` (R10, R349, D22): a free value. -/
opaque buildTileRow : Memory → ChrBuffer → Bool → ScrollOffsets → Nat → TileRow

/-- `BuildSprites(OAM, CHR, port)` (R10, R352, D23): a free value. -/
opaque buildSprites : Memory → ChrBuffer → PortState → SpriteList

/-- The `keys` byte the host presents during frame number `n` (R9: one byte per frame; U11: any value): a free value
indexed by State's counter `frameNo`. Log entry 6. -/
opaque hostKeys : Nat → Byte

end Config

end Sys2Proof
end

