-- ==== Sys2Proof/Machine/Bits.lean ====
section
/-! DEFINITION. Byte order, extension and page helpers (spec 00_scope R11, 20_memory R71). -/

namespace Sys2Proof.Machine

/-- `hi ++ lo` (R11): the 16-bit value whose upper byte is `hi`. -/
def wordOf (hi lo : Byte) : Word := hi ++ lo

/-- Bits 7:0 of a word. -/
def loByte (w : Word) : Byte := w.extractLsb' 0 8

/-- Bits 15:8 of a word. -/
def hiByte (w : Word) : Byte := w.extractLsb' 8 8

/-- `zext_16` (R11). -/
def zext16 (b : Byte) : Word := b.setWidth 16

/-- `sext_16` (R11): a byte of `0x80` and above stands for itself minus 256. -/
def sext16 (b : Byte) : Word := b.signExtend 16

/-- Two addresses lie in one page when their upper bytes agree (R19, R250). -/
def samePage (p q : Word) : Bool := (p &&& 0xFF00#16) == (q &&& 0xFF00#16)

end Sys2Proof.Machine
end

