-- ==== Sys2Proof/Syntax.lean ====
section
/-! DEFINITION. The instructions: one constructor per row of the opcode table (spec 30_encoding R131), with the operand
bytes of its format (R124) as its argument: a byte for format F2, the 16-bit word `hi ++ lo` for format F3. A constructor is
named by its mnemonic and its mode in the abbreviations of R130. -/

namespace Sys2Proof

/-- The thirteen addressing modes (R125). -/
inductive Mode where
  | implied
  | accumulator
  | immediate
  | relative
  | zeroPage
  | zeroPageX
  | zeroPageY
  | absolute
  | absoluteX
  | absoluteY
  | preIndexedIndirect
  | postIndexedIndirect
  | indirectAbsolute
  deriving DecidableEq, Repr

/-- The operand bytes of a mode (R25, R124, R125). -/
def Mode.operandBytes : Mode → Nat
  | .implied => 0
  | .accumulator => 0
  | .immediate => 1
  | .relative => 1
  | .zeroPage => 1
  | .zeroPageX => 1
  | .zeroPageY => 1
  | .absolute => 2
  | .absoluteX => 2
  | .absoluteY => 2
  | .preIndexedIndirect => 1
  | .postIndexedIndirect => 1
  | .indirectAbsolute => 2

/-- The 64 mnemonics (R130). -/
inductive Mnemonic where
  | brk
  | ora
  | slo
  | asl
  | php
  | bpl
  | clc
  | jsr
  | and
  | rla
  | bit
  | rol
  | plp
  | bmi
  | sec
  | rti
  | eor
  | sre
  | lsr
  | pha
  | jmp
  | bvc
  | cli
  | rts
  | adc
  | rra
  | ror
  | pla
  | bvs
  | sei
  | sta
  | sax
  | sty
  | stx
  | dey
  | txa
  | bcc
  | tya
  | txs
  | ldy
  | lda
  | ldx
  | lax
  | tay
  | tax
  | bcs
  | clv
  | tsx
  | cpy
  | cmp
  | dcp
  | dec
  | iny
  | dex
  | bne
  | cld
  | cpx
  | sbc
  | isb
  | inc
  | inx
  | nop
  | beq
  | sed
  deriving DecidableEq, Repr

/-- The instructions, in opcode order (R131). -/
inductive Instr where
  /-- `00`: BRK Implied (R264). -/
  | brk
  /-- `01`: ORA PreIndexedIndirect (R232). -/
  | oraIzx (z : Byte)
  /-- `03`: SLO PreIndexedIndirect (R295). -/
  | sloIzx (z : Byte)
  /-- `05`: ORA ZeroPage (R232). -/
  | oraZp (z : Byte)
  /-- `06`: ASL ZeroPage (R227). -/
  | aslZp (z : Byte)
  /-- `07`: SLO ZeroPage (R295). -/
  | sloZp (z : Byte)
  /-- `08`: PHP Implied (R193). -/
  | php
  /-- `09`: ORA Immediate (R232). -/
  | oraImm (v : Byte)
  /-- `0A`: ASL Accumulator (R227). -/
  | aslAcc
  /-- `0D`: ORA Absolute (R232). -/
  | oraAbs (w : Word)
  /-- `0E`: ASL Absolute (R227). -/
  | aslAbs (w : Word)
  /-- `0F`: SLO Absolute (R295). -/
  | sloAbs (w : Word)
  /-- `10`: BPL Relative (R256). -/
  | bpl (d : Byte)
  /-- `11`: ORA PostIndexedIndirect (R232). -/
  | oraIzy (z : Byte)
  /-- `13`: SLO PostIndexedIndirect (R295). -/
  | sloIzy (z : Byte)
  /-- `15`: ORA ZeroPageX (R232). -/
  | oraZpx (z : Byte)
  /-- `16`: ASL ZeroPageX (R227). -/
  | aslZpx (z : Byte)
  /-- `17`: SLO ZeroPageX (R295). -/
  | sloZpx (z : Byte)
  /-- `18`: CLC Implied (R270). -/
  | clc
  /-- `19`: ORA AbsoluteY (R232). -/
  | oraAby (w : Word)
  /-- `1B`: SLO AbsoluteY (R295). -/
  | sloAby (w : Word)
  /-- `1D`: ORA AbsoluteX (R232). -/
  | oraAbx (w : Word)
  /-- `1E`: ASL AbsoluteX (R227). -/
  | aslAbx (w : Word)
  /-- `1F`: SLO AbsoluteX (R295). -/
  | sloAbx (w : Word)
  /-- `20`: JSR Absolute (R260). -/
  | jsr (w : Word)
  /-- `21`: AND PreIndexedIndirect (R231). -/
  | andIzx (z : Byte)
  /-- `23`: RLA PreIndexedIndirect (R296). -/
  | rlaIzx (z : Byte)
  /-- `24`: BIT ZeroPage (R234). -/
  | bitZp (z : Byte)
  /-- `25`: AND ZeroPage (R231). -/
  | andZp (z : Byte)
  /-- `26`: ROL ZeroPage (R229). -/
  | rolZp (z : Byte)
  /-- `27`: RLA ZeroPage (R296). -/
  | rlaZp (z : Byte)
  /-- `28`: PLP Implied (R194). -/
  | plp
  /-- `29`: AND Immediate (R231). -/
  | andImm (v : Byte)
  /-- `2A`: ROL Accumulator (R229). -/
  | rolAcc
  /-- `2C`: BIT Absolute (R234). -/
  | bitAbs (w : Word)
  /-- `2D`: AND Absolute (R231). -/
  | andAbs (w : Word)
  /-- `2E`: ROL Absolute (R229). -/
  | rolAbs (w : Word)
  /-- `2F`: RLA Absolute (R296). -/
  | rlaAbs (w : Word)
  /-- `30`: BMI Relative (R255). -/
  | bmi (d : Byte)
  /-- `31`: AND PostIndexedIndirect (R231). -/
  | andIzy (z : Byte)
  /-- `33`: RLA PostIndexedIndirect (R296). -/
  | rlaIzy (z : Byte)
  /-- `35`: AND ZeroPageX (R231). -/
  | andZpx (z : Byte)
  /-- `36`: ROL ZeroPageX (R229). -/
  | rolZpx (z : Byte)
  /-- `37`: RLA ZeroPageX (R296). -/
  | rlaZpx (z : Byte)
  /-- `38`: SEC Implied (R271). -/
  | sec
  /-- `39`: AND AbsoluteY (R231). -/
  | andAby (w : Word)
  /-- `3B`: RLA AbsoluteY (R296). -/
  | rlaAby (w : Word)
  /-- `3D`: AND AbsoluteX (R231). -/
  | andAbx (w : Word)
  /-- `3E`: ROL AbsoluteX (R229). -/
  | rolAbx (w : Word)
  /-- `3F`: RLA AbsoluteX (R296). -/
  | rlaAbx (w : Word)
  /-- `40`: RTI Implied (R262). -/
  | rti
  /-- `41`: EOR PreIndexedIndirect (R233). -/
  | eorIzx (z : Byte)
  /-- `43`: SRE PreIndexedIndirect (R297). -/
  | sreIzx (z : Byte)
  /-- `45`: EOR ZeroPage (R233). -/
  | eorZp (z : Byte)
  /-- `46`: LSR ZeroPage (R228). -/
  | lsrZp (z : Byte)
  /-- `47`: SRE ZeroPage (R297). -/
  | sreZp (z : Byte)
  /-- `48`: PHA Implied (R191). -/
  | pha
  /-- `49`: EOR Immediate (R233). -/
  | eorImm (v : Byte)
  /-- `4A`: LSR Accumulator (R228). -/
  | lsrAcc
  /-- `4C`: JMP Absolute (R259). -/
  | jmpAbs (w : Word)
  /-- `4D`: EOR Absolute (R233). -/
  | eorAbs (w : Word)
  /-- `4E`: LSR Absolute (R228). -/
  | lsrAbs (w : Word)
  /-- `4F`: SRE Absolute (R297). -/
  | sreAbs (w : Word)
  /-- `50`: BVC Relative (R257). -/
  | bvc (d : Byte)
  /-- `51`: EOR PostIndexedIndirect (R233). -/
  | eorIzy (z : Byte)
  /-- `53`: SRE PostIndexedIndirect (R297). -/
  | sreIzy (z : Byte)
  /-- `55`: EOR ZeroPageX (R233). -/
  | eorZpx (z : Byte)
  /-- `56`: LSR ZeroPageX (R228). -/
  | lsrZpx (z : Byte)
  /-- `57`: SRE ZeroPageX (R297). -/
  | sreZpx (z : Byte)
  /-- `58`: CLI Implied (R272). -/
  | cli
  /-- `59`: EOR AbsoluteY (R233). -/
  | eorAby (w : Word)
  /-- `5B`: SRE AbsoluteY (R297). -/
  | sreAby (w : Word)
  /-- `5D`: EOR AbsoluteX (R233). -/
  | eorAbx (w : Word)
  /-- `5E`: LSR AbsoluteX (R228). -/
  | lsrAbx (w : Word)
  /-- `5F`: SRE AbsoluteX (R297). -/
  | sreAbx (w : Word)
  /-- `60`: RTS Implied (R261). -/
  | rts
  /-- `61`: ADC PreIndexedIndirect (R200). -/
  | adcIzx (z : Byte)
  /-- `63`: RRA PreIndexedIndirect (R298). -/
  | rraIzx (z : Byte)
  /-- `65`: ADC ZeroPage (R200). -/
  | adcZp (z : Byte)
  /-- `66`: ROR ZeroPage (R230). -/
  | rorZp (z : Byte)
  /-- `67`: RRA ZeroPage (R298). -/
  | rraZp (z : Byte)
  /-- `68`: PLA Implied (R192). -/
  | pla
  /-- `69`: ADC Immediate (R200). -/
  | adcImm (v : Byte)
  /-- `6A`: ROR Accumulator (R230). -/
  | rorAcc
  /-- `6C`: JMP IndirectAbsolute (R259). -/
  | jmpInd (w : Word)
  /-- `6D`: ADC Absolute (R200). -/
  | adcAbs (w : Word)
  /-- `6E`: ROR Absolute (R230). -/
  | rorAbs (w : Word)
  /-- `6F`: RRA Absolute (R298). -/
  | rraAbs (w : Word)
  /-- `70`: BVS Relative (R258). -/
  | bvs (d : Byte)
  /-- `71`: ADC PostIndexedIndirect (R200). -/
  | adcIzy (z : Byte)
  /-- `73`: RRA PostIndexedIndirect (R298). -/
  | rraIzy (z : Byte)
  /-- `75`: ADC ZeroPageX (R200). -/
  | adcZpx (z : Byte)
  /-- `76`: ROR ZeroPageX (R230). -/
  | rorZpx (z : Byte)
  /-- `77`: RRA ZeroPageX (R298). -/
  | rraZpx (z : Byte)
  /-- `78`: SEI Implied (R273). -/
  | sei
  /-- `79`: ADC AbsoluteY (R200). -/
  | adcAby (w : Word)
  /-- `7B`: RRA AbsoluteY (R298). -/
  | rraAby (w : Word)
  /-- `7D`: ADC AbsoluteX (R200). -/
  | adcAbx (w : Word)
  /-- `7E`: ROR AbsoluteX (R230). -/
  | rorAbx (w : Word)
  /-- `7F`: RRA AbsoluteX (R298). -/
  | rraAbx (w : Word)
  /-- `81`: STA PreIndexedIndirect (R174). -/
  | staIzx (z : Byte)
  /-- `83`: SAX PreIndexedIndirect (R292). -/
  | saxIzx (z : Byte)
  /-- `84`: STY ZeroPage (R176). -/
  | styZp (z : Byte)
  /-- `85`: STA ZeroPage (R174). -/
  | staZp (z : Byte)
  /-- `86`: STX ZeroPage (R175). -/
  | stxZp (z : Byte)
  /-- `87`: SAX ZeroPage (R292). -/
  | saxZp (z : Byte)
  /-- `88`: DEY Implied (R226). -/
  | dey
  /-- `8A`: TXA Implied (R178). -/
  | txa
  /-- `8C`: STY Absolute (R176). -/
  | styAbs (w : Word)
  /-- `8D`: STA Absolute (R174). -/
  | staAbs (w : Word)
  /-- `8E`: STX Absolute (R175). -/
  | stxAbs (w : Word)
  /-- `8F`: SAX Absolute (R292). -/
  | saxAbs (w : Word)
  /-- `90`: BCC Relative (R251). -/
  | bcc (d : Byte)
  /-- `91`: STA PostIndexedIndirect (R174). -/
  | staIzy (z : Byte)
  /-- `94`: STY ZeroPageX (R176). -/
  | styZpx (z : Byte)
  /-- `95`: STA ZeroPageX (R174). -/
  | staZpx (z : Byte)
  /-- `96`: STX ZeroPageY (R175). -/
  | stxZpy (z : Byte)
  /-- `97`: SAX ZeroPageY (R292). -/
  | saxZpy (z : Byte)
  /-- `98`: TYA Implied (R180). -/
  | tya
  /-- `99`: STA AbsoluteY (R174). -/
  | staAby (w : Word)
  /-- `9A`: TXS Implied (R182). -/
  | txs
  /-- `9D`: STA AbsoluteX (R174). -/
  | staAbx (w : Word)
  /-- `A0`: LDY Immediate (R173). -/
  | ldyImm (v : Byte)
  /-- `A1`: LDA PreIndexedIndirect (R171). -/
  | ldaIzx (z : Byte)
  /-- `A2`: LDX Immediate (R172). -/
  | ldxImm (v : Byte)
  /-- `A3`: LAX PreIndexedIndirect (R291). -/
  | laxIzx (z : Byte)
  /-- `A4`: LDY ZeroPage (R173). -/
  | ldyZp (z : Byte)
  /-- `A5`: LDA ZeroPage (R171). -/
  | ldaZp (z : Byte)
  /-- `A6`: LDX ZeroPage (R172). -/
  | ldxZp (z : Byte)
  /-- `A7`: LAX ZeroPage (R291). -/
  | laxZp (z : Byte)
  /-- `A8`: TAY Implied (R179). -/
  | tay
  /-- `A9`: LDA Immediate (R171). -/
  | ldaImm (v : Byte)
  /-- `AA`: TAX Implied (R177). -/
  | tax
  /-- `AC`: LDY Absolute (R173). -/
  | ldyAbs (w : Word)
  /-- `AD`: LDA Absolute (R171). -/
  | ldaAbs (w : Word)
  /-- `AE`: LDX Absolute (R172). -/
  | ldxAbs (w : Word)
  /-- `AF`: LAX Absolute (R291). -/
  | laxAbs (w : Word)
  /-- `B0`: BCS Relative (R252). -/
  | bcs (d : Byte)
  /-- `B1`: LDA PostIndexedIndirect (R171). -/
  | ldaIzy (z : Byte)
  /-- `B3`: LAX PostIndexedIndirect (R291). -/
  | laxIzy (z : Byte)
  /-- `B4`: LDY ZeroPageX (R173). -/
  | ldyZpx (z : Byte)
  /-- `B5`: LDA ZeroPageX (R171). -/
  | ldaZpx (z : Byte)
  /-- `B6`: LDX ZeroPageY (R172). -/
  | ldxZpy (z : Byte)
  /-- `B7`: LAX ZeroPageY (R291). -/
  | laxZpy (z : Byte)
  /-- `B8`: CLV Implied (R274). -/
  | clv
  /-- `B9`: LDA AbsoluteY (R171). -/
  | ldaAby (w : Word)
  /-- `BA`: TSX Implied (R181). -/
  | tsx
  /-- `BC`: LDY AbsoluteX (R173). -/
  | ldyAbx (w : Word)
  /-- `BD`: LDA AbsoluteX (R171). -/
  | ldaAbx (w : Word)
  /-- `BE`: LDX AbsoluteY (R172). -/
  | ldxAby (w : Word)
  /-- `BF`: LAX AbsoluteY (R291). -/
  | laxAby (w : Word)
  /-- `C0`: CPY Immediate (R205). -/
  | cpyImm (v : Byte)
  /-- `C1`: CMP PreIndexedIndirect (R203). -/
  | cmpIzx (z : Byte)
  /-- `C3`: DCP PreIndexedIndirect (R293). -/
  | dcpIzx (z : Byte)
  /-- `C4`: CPY ZeroPage (R205). -/
  | cpyZp (z : Byte)
  /-- `C5`: CMP ZeroPage (R203). -/
  | cmpZp (z : Byte)
  /-- `C6`: DEC ZeroPage (R222). -/
  | decZp (z : Byte)
  /-- `C7`: DCP ZeroPage (R293). -/
  | dcpZp (z : Byte)
  /-- `C8`: INY Implied (R224). -/
  | iny
  /-- `C9`: CMP Immediate (R203). -/
  | cmpImm (v : Byte)
  /-- `CA`: DEX Implied (R225). -/
  | dex
  /-- `CC`: CPY Absolute (R205). -/
  | cpyAbs (w : Word)
  /-- `CD`: CMP Absolute (R203). -/
  | cmpAbs (w : Word)
  /-- `CE`: DEC Absolute (R222). -/
  | decAbs (w : Word)
  /-- `CF`: DCP Absolute (R293). -/
  | dcpAbs (w : Word)
  /-- `D0`: BNE Relative (R254). -/
  | bne (d : Byte)
  /-- `D1`: CMP PostIndexedIndirect (R203). -/
  | cmpIzy (z : Byte)
  /-- `D3`: DCP PostIndexedIndirect (R293). -/
  | dcpIzy (z : Byte)
  /-- `D5`: CMP ZeroPageX (R203). -/
  | cmpZpx (z : Byte)
  /-- `D6`: DEC ZeroPageX (R222). -/
  | decZpx (z : Byte)
  /-- `D7`: DCP ZeroPageX (R293). -/
  | dcpZpx (z : Byte)
  /-- `D8`: CLD Implied (R275). -/
  | cld
  /-- `D9`: CMP AbsoluteY (R203). -/
  | cmpAby (w : Word)
  /-- `DB`: DCP AbsoluteY (R293). -/
  | dcpAby (w : Word)
  /-- `DD`: CMP AbsoluteX (R203). -/
  | cmpAbx (w : Word)
  /-- `DE`: DEC AbsoluteX (R222). -/
  | decAbx (w : Word)
  /-- `DF`: DCP AbsoluteX (R293). -/
  | dcpAbx (w : Word)
  /-- `E0`: CPX Immediate (R204). -/
  | cpxImm (v : Byte)
  /-- `E1`: SBC PreIndexedIndirect (R201). -/
  | sbcIzx (z : Byte)
  /-- `E3`: ISB PreIndexedIndirect (R294). -/
  | isbIzx (z : Byte)
  /-- `E4`: CPX ZeroPage (R204). -/
  | cpxZp (z : Byte)
  /-- `E5`: SBC ZeroPage (R201). -/
  | sbcZp (z : Byte)
  /-- `E6`: INC ZeroPage (R221). -/
  | incZp (z : Byte)
  /-- `E7`: ISB ZeroPage (R294). -/
  | isbZp (z : Byte)
  /-- `E8`: INX Implied (R223). -/
  | inx
  /-- `E9`: SBC Immediate (R201). -/
  | sbcImm (v : Byte)
  /-- `EA`: NOP Implied (R277). -/
  | nop
  /-- `EC`: CPX Absolute (R204). -/
  | cpxAbs (w : Word)
  /-- `ED`: SBC Absolute (R201). -/
  | sbcAbs (w : Word)
  /-- `EE`: INC Absolute (R221). -/
  | incAbs (w : Word)
  /-- `EF`: ISB Absolute (R294). -/
  | isbAbs (w : Word)
  /-- `F0`: BEQ Relative (R253). -/
  | beq (d : Byte)
  /-- `F1`: SBC PostIndexedIndirect (R201). -/
  | sbcIzy (z : Byte)
  /-- `F3`: ISB PostIndexedIndirect (R294). -/
  | isbIzy (z : Byte)
  /-- `F5`: SBC ZeroPageX (R201). -/
  | sbcZpx (z : Byte)
  /-- `F6`: INC ZeroPageX (R221). -/
  | incZpx (z : Byte)
  /-- `F7`: ISB ZeroPageX (R294). -/
  | isbZpx (z : Byte)
  /-- `F8`: SED Implied (R276). -/
  | sed
  /-- `F9`: SBC AbsoluteY (R201). -/
  | sbcAby (w : Word)
  /-- `FB`: ISB AbsoluteY (R294). -/
  | isbAby (w : Word)
  /-- `FD`: SBC AbsoluteX (R201). -/
  | sbcAbx (w : Word)
  /-- `FE`: INC AbsoluteX (R221). -/
  | incAbx (w : Word)
  /-- `FF`: ISB AbsoluteX (R294). -/
  | isbAbx (w : Word)
  deriving DecidableEq, Repr

/-- A cartridge image as the host supplies it (R9, R372): two byte buffers and the horizontal-mirroring flag. DESIGN CHOICE
(log entry 19): `chrIsRam`, whether the character buffer is RAM, is the model's own fourth input; the spec distinguishes
character ROM from RAM (R43, R82) and lists no input that tells them apart. -/
structure CartImage where
  prg : List Byte
  chr : List Byte
  chrIsRam : Bool
  mirrorH : Bool
  deriving DecidableEq, Repr

end Sys2Proof
end

