-- ==== Sys2Proof/WellFormed.lean ====
section
/-! DEFINITION. What the model accepts as input: instructions (spec 30_encoding R133) and cartridge images (00_scope R9). -/

namespace Sys2Proof

/-- Every instruction term is well-formed: no operand value makes a decoded instruction illegal (R133), a mode without an
opcode byte for a mnemonic has no constructor (R164), and the operand types have exactly the widths of the formats (R124). -/
def Instr.wellFormed (_ : Instr) : Bool := true

/-- `PRG_SIZE` is `0x4000` or `0x8000`; any other image is refused (R9, D14, U15). -/
def CartImage.wellFormed (image : CartImage) : Bool := image.prg.length == 0x4000 || image.prg.length == 0x8000

end Sys2Proof
end

