-- ==== Sys2Proof/Decode.lean ====
section
/-! DEFINITION. The decoder, a lookup on the whole opcode byte (spec 30_encoding R122, R130), the encoder (R124, R131), the
opcode table's other columns, and the interface of the opcode-table check. -/

namespace Sys2Proof

open Machine (wordOf loByte hiByte)

/-- What an opcode byte selects (R124): an instruction of one byte, or one that still needs its operand byte or word. -/
inductive Format where
  | f1 (i : Instr)
  | f2 (mk : Byte → Instr)
  | f3 (mk : Word → Instr)

/-! ## The opcode matrix (R130), one definition per row, by the low nibble -/

/-- Row `0x` of the matrix. -/
def matrixRow0 : Nat → Option Format
  | 0x0 => some (.f1 .brk)
  | 0x1 => some (.f2 .oraIzx)
  | 0x3 => some (.f2 .sloIzx)
  | 0x5 => some (.f2 .oraZp)
  | 0x6 => some (.f2 .aslZp)
  | 0x7 => some (.f2 .sloZp)
  | 0x8 => some (.f1 .php)
  | 0x9 => some (.f2 .oraImm)
  | 0xA => some (.f1 .aslAcc)
  | 0xD => some (.f3 .oraAbs)
  | 0xE => some (.f3 .aslAbs)
  | 0xF => some (.f3 .sloAbs)
  | _ => none

/-- Row `1x` of the matrix. -/
def matrixRow1 : Nat → Option Format
  | 0x0 => some (.f2 .bpl)
  | 0x1 => some (.f2 .oraIzy)
  | 0x3 => some (.f2 .sloIzy)
  | 0x5 => some (.f2 .oraZpx)
  | 0x6 => some (.f2 .aslZpx)
  | 0x7 => some (.f2 .sloZpx)
  | 0x8 => some (.f1 .clc)
  | 0x9 => some (.f3 .oraAby)
  | 0xB => some (.f3 .sloAby)
  | 0xD => some (.f3 .oraAbx)
  | 0xE => some (.f3 .aslAbx)
  | 0xF => some (.f3 .sloAbx)
  | _ => none

/-- Row `2x` of the matrix. -/
def matrixRow2 : Nat → Option Format
  | 0x0 => some (.f3 .jsr)
  | 0x1 => some (.f2 .andIzx)
  | 0x3 => some (.f2 .rlaIzx)
  | 0x4 => some (.f2 .bitZp)
  | 0x5 => some (.f2 .andZp)
  | 0x6 => some (.f2 .rolZp)
  | 0x7 => some (.f2 .rlaZp)
  | 0x8 => some (.f1 .plp)
  | 0x9 => some (.f2 .andImm)
  | 0xA => some (.f1 .rolAcc)
  | 0xC => some (.f3 .bitAbs)
  | 0xD => some (.f3 .andAbs)
  | 0xE => some (.f3 .rolAbs)
  | 0xF => some (.f3 .rlaAbs)
  | _ => none

/-- Row `3x` of the matrix. -/
def matrixRow3 : Nat → Option Format
  | 0x0 => some (.f2 .bmi)
  | 0x1 => some (.f2 .andIzy)
  | 0x3 => some (.f2 .rlaIzy)
  | 0x5 => some (.f2 .andZpx)
  | 0x6 => some (.f2 .rolZpx)
  | 0x7 => some (.f2 .rlaZpx)
  | 0x8 => some (.f1 .sec)
  | 0x9 => some (.f3 .andAby)
  | 0xB => some (.f3 .rlaAby)
  | 0xD => some (.f3 .andAbx)
  | 0xE => some (.f3 .rolAbx)
  | 0xF => some (.f3 .rlaAbx)
  | _ => none

/-- Row `4x` of the matrix. -/
def matrixRow4 : Nat → Option Format
  | 0x0 => some (.f1 .rti)
  | 0x1 => some (.f2 .eorIzx)
  | 0x3 => some (.f2 .sreIzx)
  | 0x5 => some (.f2 .eorZp)
  | 0x6 => some (.f2 .lsrZp)
  | 0x7 => some (.f2 .sreZp)
  | 0x8 => some (.f1 .pha)
  | 0x9 => some (.f2 .eorImm)
  | 0xA => some (.f1 .lsrAcc)
  | 0xC => some (.f3 .jmpAbs)
  | 0xD => some (.f3 .eorAbs)
  | 0xE => some (.f3 .lsrAbs)
  | 0xF => some (.f3 .sreAbs)
  | _ => none

/-- Row `5x` of the matrix. -/
def matrixRow5 : Nat → Option Format
  | 0x0 => some (.f2 .bvc)
  | 0x1 => some (.f2 .eorIzy)
  | 0x3 => some (.f2 .sreIzy)
  | 0x5 => some (.f2 .eorZpx)
  | 0x6 => some (.f2 .lsrZpx)
  | 0x7 => some (.f2 .sreZpx)
  | 0x8 => some (.f1 .cli)
  | 0x9 => some (.f3 .eorAby)
  | 0xB => some (.f3 .sreAby)
  | 0xD => some (.f3 .eorAbx)
  | 0xE => some (.f3 .lsrAbx)
  | 0xF => some (.f3 .sreAbx)
  | _ => none

/-- Row `6x` of the matrix. -/
def matrixRow6 : Nat → Option Format
  | 0x0 => some (.f1 .rts)
  | 0x1 => some (.f2 .adcIzx)
  | 0x3 => some (.f2 .rraIzx)
  | 0x5 => some (.f2 .adcZp)
  | 0x6 => some (.f2 .rorZp)
  | 0x7 => some (.f2 .rraZp)
  | 0x8 => some (.f1 .pla)
  | 0x9 => some (.f2 .adcImm)
  | 0xA => some (.f1 .rorAcc)
  | 0xC => some (.f3 .jmpInd)
  | 0xD => some (.f3 .adcAbs)
  | 0xE => some (.f3 .rorAbs)
  | 0xF => some (.f3 .rraAbs)
  | _ => none

/-- Row `7x` of the matrix. -/
def matrixRow7 : Nat → Option Format
  | 0x0 => some (.f2 .bvs)
  | 0x1 => some (.f2 .adcIzy)
  | 0x3 => some (.f2 .rraIzy)
  | 0x5 => some (.f2 .adcZpx)
  | 0x6 => some (.f2 .rorZpx)
  | 0x7 => some (.f2 .rraZpx)
  | 0x8 => some (.f1 .sei)
  | 0x9 => some (.f3 .adcAby)
  | 0xB => some (.f3 .rraAby)
  | 0xD => some (.f3 .adcAbx)
  | 0xE => some (.f3 .rorAbx)
  | 0xF => some (.f3 .rraAbx)
  | _ => none

/-- Row `8x` of the matrix. -/
def matrixRow8 : Nat → Option Format
  | 0x1 => some (.f2 .staIzx)
  | 0x3 => some (.f2 .saxIzx)
  | 0x4 => some (.f2 .styZp)
  | 0x5 => some (.f2 .staZp)
  | 0x6 => some (.f2 .stxZp)
  | 0x7 => some (.f2 .saxZp)
  | 0x8 => some (.f1 .dey)
  | 0xA => some (.f1 .txa)
  | 0xC => some (.f3 .styAbs)
  | 0xD => some (.f3 .staAbs)
  | 0xE => some (.f3 .stxAbs)
  | 0xF => some (.f3 .saxAbs)
  | _ => none

/-- Row `9x` of the matrix. -/
def matrixRow9 : Nat → Option Format
  | 0x0 => some (.f2 .bcc)
  | 0x1 => some (.f2 .staIzy)
  | 0x4 => some (.f2 .styZpx)
  | 0x5 => some (.f2 .staZpx)
  | 0x6 => some (.f2 .stxZpy)
  | 0x7 => some (.f2 .saxZpy)
  | 0x8 => some (.f1 .tya)
  | 0x9 => some (.f3 .staAby)
  | 0xA => some (.f1 .txs)
  | 0xD => some (.f3 .staAbx)
  | _ => none

/-- Row `Ax` of the matrix. -/
def matrixRowA : Nat → Option Format
  | 0x0 => some (.f2 .ldyImm)
  | 0x1 => some (.f2 .ldaIzx)
  | 0x2 => some (.f2 .ldxImm)
  | 0x3 => some (.f2 .laxIzx)
  | 0x4 => some (.f2 .ldyZp)
  | 0x5 => some (.f2 .ldaZp)
  | 0x6 => some (.f2 .ldxZp)
  | 0x7 => some (.f2 .laxZp)
  | 0x8 => some (.f1 .tay)
  | 0x9 => some (.f2 .ldaImm)
  | 0xA => some (.f1 .tax)
  | 0xC => some (.f3 .ldyAbs)
  | 0xD => some (.f3 .ldaAbs)
  | 0xE => some (.f3 .ldxAbs)
  | 0xF => some (.f3 .laxAbs)
  | _ => none

/-- Row `Bx` of the matrix. -/
def matrixRowB : Nat → Option Format
  | 0x0 => some (.f2 .bcs)
  | 0x1 => some (.f2 .ldaIzy)
  | 0x3 => some (.f2 .laxIzy)
  | 0x4 => some (.f2 .ldyZpx)
  | 0x5 => some (.f2 .ldaZpx)
  | 0x6 => some (.f2 .ldxZpy)
  | 0x7 => some (.f2 .laxZpy)
  | 0x8 => some (.f1 .clv)
  | 0x9 => some (.f3 .ldaAby)
  | 0xA => some (.f1 .tsx)
  | 0xC => some (.f3 .ldyAbx)
  | 0xD => some (.f3 .ldaAbx)
  | 0xE => some (.f3 .ldxAby)
  | 0xF => some (.f3 .laxAby)
  | _ => none

/-- Row `Cx` of the matrix. -/
def matrixRowC : Nat → Option Format
  | 0x0 => some (.f2 .cpyImm)
  | 0x1 => some (.f2 .cmpIzx)
  | 0x3 => some (.f2 .dcpIzx)
  | 0x4 => some (.f2 .cpyZp)
  | 0x5 => some (.f2 .cmpZp)
  | 0x6 => some (.f2 .decZp)
  | 0x7 => some (.f2 .dcpZp)
  | 0x8 => some (.f1 .iny)
  | 0x9 => some (.f2 .cmpImm)
  | 0xA => some (.f1 .dex)
  | 0xC => some (.f3 .cpyAbs)
  | 0xD => some (.f3 .cmpAbs)
  | 0xE => some (.f3 .decAbs)
  | 0xF => some (.f3 .dcpAbs)
  | _ => none

/-- Row `Dx` of the matrix. -/
def matrixRowD : Nat → Option Format
  | 0x0 => some (.f2 .bne)
  | 0x1 => some (.f2 .cmpIzy)
  | 0x3 => some (.f2 .dcpIzy)
  | 0x5 => some (.f2 .cmpZpx)
  | 0x6 => some (.f2 .decZpx)
  | 0x7 => some (.f2 .dcpZpx)
  | 0x8 => some (.f1 .cld)
  | 0x9 => some (.f3 .cmpAby)
  | 0xB => some (.f3 .dcpAby)
  | 0xD => some (.f3 .cmpAbx)
  | 0xE => some (.f3 .decAbx)
  | 0xF => some (.f3 .dcpAbx)
  | _ => none

/-- Row `Ex` of the matrix. -/
def matrixRowE : Nat → Option Format
  | 0x0 => some (.f2 .cpxImm)
  | 0x1 => some (.f2 .sbcIzx)
  | 0x3 => some (.f2 .isbIzx)
  | 0x4 => some (.f2 .cpxZp)
  | 0x5 => some (.f2 .sbcZp)
  | 0x6 => some (.f2 .incZp)
  | 0x7 => some (.f2 .isbZp)
  | 0x8 => some (.f1 .inx)
  | 0x9 => some (.f2 .sbcImm)
  | 0xA => some (.f1 .nop)
  | 0xC => some (.f3 .cpxAbs)
  | 0xD => some (.f3 .sbcAbs)
  | 0xE => some (.f3 .incAbs)
  | 0xF => some (.f3 .isbAbs)
  | _ => none

/-- Row `Fx` of the matrix. -/
def matrixRowF : Nat → Option Format
  | 0x0 => some (.f2 .beq)
  | 0x1 => some (.f2 .sbcIzy)
  | 0x3 => some (.f2 .isbIzy)
  | 0x5 => some (.f2 .sbcZpx)
  | 0x6 => some (.f2 .incZpx)
  | 0x7 => some (.f2 .isbZpx)
  | 0x8 => some (.f1 .sed)
  | 0x9 => some (.f3 .sbcAby)
  | 0xB => some (.f3 .isbAby)
  | 0xD => some (.f3 .sbcAbx)
  | 0xE => some (.f3 .incAbx)
  | 0xF => some (.f3 .isbAbx)
  | _ => none

/-- The entry of an opcode byte; none for the 53 bytes of R132. -/
def decodeOpcode (op : Byte) : Option Format :=
  match op.toNat / 16 with
  | 0x0 => matrixRow0 (op.toNat % 16)
  | 0x1 => matrixRow1 (op.toNat % 16)
  | 0x2 => matrixRow2 (op.toNat % 16)
  | 0x3 => matrixRow3 (op.toNat % 16)
  | 0x4 => matrixRow4 (op.toNat % 16)
  | 0x5 => matrixRow5 (op.toNat % 16)
  | 0x6 => matrixRow6 (op.toNat % 16)
  | 0x7 => matrixRow7 (op.toNat % 16)
  | 0x8 => matrixRow8 (op.toNat % 16)
  | 0x9 => matrixRow9 (op.toNat % 16)
  | 0xA => matrixRowA (op.toNat % 16)
  | 0xB => matrixRowB (op.toNat % 16)
  | 0xC => matrixRowC (op.toNat % 16)
  | 0xD => matrixRowD (op.toNat % 16)
  | 0xE => matrixRowE (op.toNat % 16)
  | 0xF => matrixRowF (op.toNat % 16)
  | _ => none

/-- Why a byte sequence is no instruction: nothing there, an opcode byte without an entry (R132), or operand bytes missing. -/
inductive DecodeError where
  | noBytes
  | noEntry (opcode : Byte)
  | truncated (opcode : Byte)
  deriving DecidableEq, Repr

/-- Reads one instruction from the head of a byte sequence, lowest address first (R124), and gives the rest. -/
def decode : List Byte → Except DecodeError (Instr × List Byte)
  | [] => .error .noBytes
  | op :: rest =>
    match decodeOpcode op with
    | none => .error (.noEntry op)
    | some (.f1 i) => .ok (i, rest)
    | some (.f2 mk) =>
      match rest with
      | d :: rest' => .ok (mk d, rest')
      | [] => .error (.truncated op)
    | some (.f3 mk) =>
      match rest with
      | lo :: hi :: rest' => .ok (mk (wordOf hi lo), rest')
      | _ => .error (.truncated op)

/-- The bytes of an instruction of format F3: the word's low byte first (R71, R124). -/
def encodeWord (op : Byte) (w : Word) : List Byte := [op, loByte w, hiByte w]

/-- The bytes of an instruction, lowest address first (R124, R131). -/
def encode : Instr → List Byte
  | .brk => [0x00]
  | .oraIzx z => [0x01, z]
  | .sloIzx z => [0x03, z]
  | .oraZp z => [0x05, z]
  | .aslZp z => [0x06, z]
  | .sloZp z => [0x07, z]
  | .php => [0x08]
  | .oraImm v => [0x09, v]
  | .aslAcc => [0x0A]
  | .oraAbs w => encodeWord 0x0D w
  | .aslAbs w => encodeWord 0x0E w
  | .sloAbs w => encodeWord 0x0F w
  | .bpl d => [0x10, d]
  | .oraIzy z => [0x11, z]
  | .sloIzy z => [0x13, z]
  | .oraZpx z => [0x15, z]
  | .aslZpx z => [0x16, z]
  | .sloZpx z => [0x17, z]
  | .clc => [0x18]
  | .oraAby w => encodeWord 0x19 w
  | .sloAby w => encodeWord 0x1B w
  | .oraAbx w => encodeWord 0x1D w
  | .aslAbx w => encodeWord 0x1E w
  | .sloAbx w => encodeWord 0x1F w
  | .jsr w => encodeWord 0x20 w
  | .andIzx z => [0x21, z]
  | .rlaIzx z => [0x23, z]
  | .bitZp z => [0x24, z]
  | .andZp z => [0x25, z]
  | .rolZp z => [0x26, z]
  | .rlaZp z => [0x27, z]
  | .plp => [0x28]
  | .andImm v => [0x29, v]
  | .rolAcc => [0x2A]
  | .bitAbs w => encodeWord 0x2C w
  | .andAbs w => encodeWord 0x2D w
  | .rolAbs w => encodeWord 0x2E w
  | .rlaAbs w => encodeWord 0x2F w
  | .bmi d => [0x30, d]
  | .andIzy z => [0x31, z]
  | .rlaIzy z => [0x33, z]
  | .andZpx z => [0x35, z]
  | .rolZpx z => [0x36, z]
  | .rlaZpx z => [0x37, z]
  | .sec => [0x38]
  | .andAby w => encodeWord 0x39 w
  | .rlaAby w => encodeWord 0x3B w
  | .andAbx w => encodeWord 0x3D w
  | .rolAbx w => encodeWord 0x3E w
  | .rlaAbx w => encodeWord 0x3F w
  | .rti => [0x40]
  | .eorIzx z => [0x41, z]
  | .sreIzx z => [0x43, z]
  | .eorZp z => [0x45, z]
  | .lsrZp z => [0x46, z]
  | .sreZp z => [0x47, z]
  | .pha => [0x48]
  | .eorImm v => [0x49, v]
  | .lsrAcc => [0x4A]
  | .jmpAbs w => encodeWord 0x4C w
  | .eorAbs w => encodeWord 0x4D w
  | .lsrAbs w => encodeWord 0x4E w
  | .sreAbs w => encodeWord 0x4F w
  | .bvc d => [0x50, d]
  | .eorIzy z => [0x51, z]
  | .sreIzy z => [0x53, z]
  | .eorZpx z => [0x55, z]
  | .lsrZpx z => [0x56, z]
  | .sreZpx z => [0x57, z]
  | .cli => [0x58]
  | .eorAby w => encodeWord 0x59 w
  | .sreAby w => encodeWord 0x5B w
  | .eorAbx w => encodeWord 0x5D w
  | .lsrAbx w => encodeWord 0x5E w
  | .sreAbx w => encodeWord 0x5F w
  | .rts => [0x60]
  | .adcIzx z => [0x61, z]
  | .rraIzx z => [0x63, z]
  | .adcZp z => [0x65, z]
  | .rorZp z => [0x66, z]
  | .rraZp z => [0x67, z]
  | .pla => [0x68]
  | .adcImm v => [0x69, v]
  | .rorAcc => [0x6A]
  | .jmpInd w => encodeWord 0x6C w
  | .adcAbs w => encodeWord 0x6D w
  | .rorAbs w => encodeWord 0x6E w
  | .rraAbs w => encodeWord 0x6F w
  | .bvs d => [0x70, d]
  | .adcIzy z => [0x71, z]
  | .rraIzy z => [0x73, z]
  | .adcZpx z => [0x75, z]
  | .rorZpx z => [0x76, z]
  | .rraZpx z => [0x77, z]
  | .sei => [0x78]
  | .adcAby w => encodeWord 0x79 w
  | .rraAby w => encodeWord 0x7B w
  | .adcAbx w => encodeWord 0x7D w
  | .rorAbx w => encodeWord 0x7E w
  | .rraAbx w => encodeWord 0x7F w
  | .staIzx z => [0x81, z]
  | .saxIzx z => [0x83, z]
  | .styZp z => [0x84, z]
  | .staZp z => [0x85, z]
  | .stxZp z => [0x86, z]
  | .saxZp z => [0x87, z]
  | .dey => [0x88]
  | .txa => [0x8A]
  | .styAbs w => encodeWord 0x8C w
  | .staAbs w => encodeWord 0x8D w
  | .stxAbs w => encodeWord 0x8E w
  | .saxAbs w => encodeWord 0x8F w
  | .bcc d => [0x90, d]
  | .staIzy z => [0x91, z]
  | .styZpx z => [0x94, z]
  | .staZpx z => [0x95, z]
  | .stxZpy z => [0x96, z]
  | .saxZpy z => [0x97, z]
  | .tya => [0x98]
  | .staAby w => encodeWord 0x99 w
  | .txs => [0x9A]
  | .staAbx w => encodeWord 0x9D w
  | .ldyImm v => [0xA0, v]
  | .ldaIzx z => [0xA1, z]
  | .ldxImm v => [0xA2, v]
  | .laxIzx z => [0xA3, z]
  | .ldyZp z => [0xA4, z]
  | .ldaZp z => [0xA5, z]
  | .ldxZp z => [0xA6, z]
  | .laxZp z => [0xA7, z]
  | .tay => [0xA8]
  | .ldaImm v => [0xA9, v]
  | .tax => [0xAA]
  | .ldyAbs w => encodeWord 0xAC w
  | .ldaAbs w => encodeWord 0xAD w
  | .ldxAbs w => encodeWord 0xAE w
  | .laxAbs w => encodeWord 0xAF w
  | .bcs d => [0xB0, d]
  | .ldaIzy z => [0xB1, z]
  | .laxIzy z => [0xB3, z]
  | .ldyZpx z => [0xB4, z]
  | .ldaZpx z => [0xB5, z]
  | .ldxZpy z => [0xB6, z]
  | .laxZpy z => [0xB7, z]
  | .clv => [0xB8]
  | .ldaAby w => encodeWord 0xB9 w
  | .tsx => [0xBA]
  | .ldyAbx w => encodeWord 0xBC w
  | .ldaAbx w => encodeWord 0xBD w
  | .ldxAby w => encodeWord 0xBE w
  | .laxAby w => encodeWord 0xBF w
  | .cpyImm v => [0xC0, v]
  | .cmpIzx z => [0xC1, z]
  | .dcpIzx z => [0xC3, z]
  | .cpyZp z => [0xC4, z]
  | .cmpZp z => [0xC5, z]
  | .decZp z => [0xC6, z]
  | .dcpZp z => [0xC7, z]
  | .iny => [0xC8]
  | .cmpImm v => [0xC9, v]
  | .dex => [0xCA]
  | .cpyAbs w => encodeWord 0xCC w
  | .cmpAbs w => encodeWord 0xCD w
  | .decAbs w => encodeWord 0xCE w
  | .dcpAbs w => encodeWord 0xCF w
  | .bne d => [0xD0, d]
  | .cmpIzy z => [0xD1, z]
  | .dcpIzy z => [0xD3, z]
  | .cmpZpx z => [0xD5, z]
  | .decZpx z => [0xD6, z]
  | .dcpZpx z => [0xD7, z]
  | .cld => [0xD8]
  | .cmpAby w => encodeWord 0xD9 w
  | .dcpAby w => encodeWord 0xDB w
  | .cmpAbx w => encodeWord 0xDD w
  | .decAbx w => encodeWord 0xDE w
  | .dcpAbx w => encodeWord 0xDF w
  | .cpxImm v => [0xE0, v]
  | .sbcIzx z => [0xE1, z]
  | .isbIzx z => [0xE3, z]
  | .cpxZp z => [0xE4, z]
  | .sbcZp z => [0xE5, z]
  | .incZp z => [0xE6, z]
  | .isbZp z => [0xE7, z]
  | .inx => [0xE8]
  | .sbcImm v => [0xE9, v]
  | .nop => [0xEA]
  | .cpxAbs w => encodeWord 0xEC w
  | .sbcAbs w => encodeWord 0xED w
  | .incAbs w => encodeWord 0xEE w
  | .isbAbs w => encodeWord 0xEF w
  | .beq d => [0xF0, d]
  | .sbcIzy z => [0xF1, z]
  | .isbIzy z => [0xF3, z]
  | .sbcZpx z => [0xF5, z]
  | .incZpx z => [0xF6, z]
  | .isbZpx z => [0xF7, z]
  | .sed => [0xF8]
  | .sbcAby w => encodeWord 0xF9 w
  | .isbAby w => encodeWord 0xFB w
  | .sbcAbx w => encodeWord 0xFD w
  | .incAbx w => encodeWord 0xFE w
  | .isbAbx w => encodeWord 0xFF w

namespace Config

/-- The rows of `CYCLES` by the upper half of the opcode byte, 0 for a byte without an entry (R8, R131; log entry 10). -/
def cycleRows : List (List Nat) :=
  [[7, 6, 0, 8, 0, 3, 5, 5, 3, 2, 2, 0, 0, 4, 6, 6],
   [2, 5, 0, 8, 0, 4, 6, 6, 2, 4, 0, 7, 0, 4, 7, 7],
   [6, 6, 0, 8, 3, 3, 5, 5, 4, 2, 2, 0, 4, 4, 6, 6],
   [2, 5, 0, 8, 0, 4, 6, 6, 2, 4, 0, 7, 0, 4, 7, 7],
   [6, 6, 0, 8, 0, 3, 5, 5, 3, 2, 2, 0, 3, 4, 6, 6],
   [2, 5, 0, 8, 0, 4, 6, 6, 2, 4, 0, 7, 0, 4, 7, 7],
   [6, 6, 0, 8, 0, 3, 5, 5, 4, 2, 2, 0, 5, 4, 6, 6],
   [2, 5, 0, 8, 0, 4, 6, 6, 2, 4, 0, 7, 0, 4, 7, 7],
   [0, 6, 0, 6, 3, 3, 3, 3, 2, 0, 2, 0, 4, 4, 4, 4],
   [2, 6, 0, 0, 4, 4, 4, 4, 2, 5, 2, 0, 0, 5, 0, 0],
   [2, 6, 2, 6, 3, 3, 3, 3, 2, 2, 2, 0, 4, 4, 4, 4],
   [2, 5, 0, 5, 4, 4, 4, 4, 2, 4, 2, 0, 4, 4, 4, 4],
   [2, 6, 0, 8, 3, 3, 5, 5, 2, 2, 2, 0, 4, 4, 6, 6],
   [2, 5, 0, 8, 0, 4, 6, 6, 2, 4, 0, 7, 0, 4, 7, 7],
   [2, 6, 0, 8, 3, 3, 5, 5, 2, 2, 2, 0, 4, 4, 6, 6],
   [2, 5, 0, 8, 0, 4, 6, 6, 2, 4, 0, 7, 0, 4, 7, 7]]

/-- `CYCLES[op]`, the base cycle cost of an opcode byte (R8, R126, R131). -/
def baseCycles (op : Nat) : Nat := (cycleRows.getD (op / 16) []).getD (op % 16) 0

end Config

/-- A row of the opcode table (R122, R131): mnemonic, mode, base cycle cost, and whether it is documented (R130). -/
structure OpcodeEntry where
  mnemonic : Mnemonic
  mode : Mode
  cycles : Nat
  documented : Bool
  deriving DecidableEq, Repr

/-- The instruction's row of the opcode table (R131). -/
def Instr.entry : Instr → OpcodeEntry
  | .brk => { mnemonic := .brk, mode := .implied, cycles := Config.baseCycles 0x00, documented := true }
  | .oraIzx _ => { mnemonic := .ora, mode := .preIndexedIndirect, cycles := Config.baseCycles 0x01, documented := true }
  | .sloIzx _ => { mnemonic := .slo, mode := .preIndexedIndirect, cycles := Config.baseCycles 0x03, documented := false }
  | .oraZp _ => { mnemonic := .ora, mode := .zeroPage, cycles := Config.baseCycles 0x05, documented := true }
  | .aslZp _ => { mnemonic := .asl, mode := .zeroPage, cycles := Config.baseCycles 0x06, documented := true }
  | .sloZp _ => { mnemonic := .slo, mode := .zeroPage, cycles := Config.baseCycles 0x07, documented := false }
  | .php => { mnemonic := .php, mode := .implied, cycles := Config.baseCycles 0x08, documented := true }
  | .oraImm _ => { mnemonic := .ora, mode := .immediate, cycles := Config.baseCycles 0x09, documented := true }
  | .aslAcc => { mnemonic := .asl, mode := .accumulator, cycles := Config.baseCycles 0x0A, documented := true }
  | .oraAbs _ => { mnemonic := .ora, mode := .absolute, cycles := Config.baseCycles 0x0D, documented := true }
  | .aslAbs _ => { mnemonic := .asl, mode := .absolute, cycles := Config.baseCycles 0x0E, documented := true }
  | .sloAbs _ => { mnemonic := .slo, mode := .absolute, cycles := Config.baseCycles 0x0F, documented := false }
  | .bpl _ => { mnemonic := .bpl, mode := .relative, cycles := Config.baseCycles 0x10, documented := true }
  | .oraIzy _ => { mnemonic := .ora, mode := .postIndexedIndirect, cycles := Config.baseCycles 0x11, documented := true }
  | .sloIzy _ => { mnemonic := .slo, mode := .postIndexedIndirect, cycles := Config.baseCycles 0x13, documented := false }
  | .oraZpx _ => { mnemonic := .ora, mode := .zeroPageX, cycles := Config.baseCycles 0x15, documented := true }
  | .aslZpx _ => { mnemonic := .asl, mode := .zeroPageX, cycles := Config.baseCycles 0x16, documented := true }
  | .sloZpx _ => { mnemonic := .slo, mode := .zeroPageX, cycles := Config.baseCycles 0x17, documented := false }
  | .clc => { mnemonic := .clc, mode := .implied, cycles := Config.baseCycles 0x18, documented := true }
  | .oraAby _ => { mnemonic := .ora, mode := .absoluteY, cycles := Config.baseCycles 0x19, documented := true }
  | .sloAby _ => { mnemonic := .slo, mode := .absoluteY, cycles := Config.baseCycles 0x1B, documented := false }
  | .oraAbx _ => { mnemonic := .ora, mode := .absoluteX, cycles := Config.baseCycles 0x1D, documented := true }
  | .aslAbx _ => { mnemonic := .asl, mode := .absoluteX, cycles := Config.baseCycles 0x1E, documented := true }
  | .sloAbx _ => { mnemonic := .slo, mode := .absoluteX, cycles := Config.baseCycles 0x1F, documented := false }
  | .jsr _ => { mnemonic := .jsr, mode := .absolute, cycles := Config.baseCycles 0x20, documented := true }
  | .andIzx _ => { mnemonic := .and, mode := .preIndexedIndirect, cycles := Config.baseCycles 0x21, documented := true }
  | .rlaIzx _ => { mnemonic := .rla, mode := .preIndexedIndirect, cycles := Config.baseCycles 0x23, documented := false }
  | .bitZp _ => { mnemonic := .bit, mode := .zeroPage, cycles := Config.baseCycles 0x24, documented := true }
  | .andZp _ => { mnemonic := .and, mode := .zeroPage, cycles := Config.baseCycles 0x25, documented := true }
  | .rolZp _ => { mnemonic := .rol, mode := .zeroPage, cycles := Config.baseCycles 0x26, documented := true }
  | .rlaZp _ => { mnemonic := .rla, mode := .zeroPage, cycles := Config.baseCycles 0x27, documented := false }
  | .plp => { mnemonic := .plp, mode := .implied, cycles := Config.baseCycles 0x28, documented := true }
  | .andImm _ => { mnemonic := .and, mode := .immediate, cycles := Config.baseCycles 0x29, documented := true }
  | .rolAcc => { mnemonic := .rol, mode := .accumulator, cycles := Config.baseCycles 0x2A, documented := true }
  | .bitAbs _ => { mnemonic := .bit, mode := .absolute, cycles := Config.baseCycles 0x2C, documented := true }
  | .andAbs _ => { mnemonic := .and, mode := .absolute, cycles := Config.baseCycles 0x2D, documented := true }
  | .rolAbs _ => { mnemonic := .rol, mode := .absolute, cycles := Config.baseCycles 0x2E, documented := true }
  | .rlaAbs _ => { mnemonic := .rla, mode := .absolute, cycles := Config.baseCycles 0x2F, documented := false }
  | .bmi _ => { mnemonic := .bmi, mode := .relative, cycles := Config.baseCycles 0x30, documented := true }
  | .andIzy _ => { mnemonic := .and, mode := .postIndexedIndirect, cycles := Config.baseCycles 0x31, documented := true }
  | .rlaIzy _ => { mnemonic := .rla, mode := .postIndexedIndirect, cycles := Config.baseCycles 0x33, documented := false }
  | .andZpx _ => { mnemonic := .and, mode := .zeroPageX, cycles := Config.baseCycles 0x35, documented := true }
  | .rolZpx _ => { mnemonic := .rol, mode := .zeroPageX, cycles := Config.baseCycles 0x36, documented := true }
  | .rlaZpx _ => { mnemonic := .rla, mode := .zeroPageX, cycles := Config.baseCycles 0x37, documented := false }
  | .sec => { mnemonic := .sec, mode := .implied, cycles := Config.baseCycles 0x38, documented := true }
  | .andAby _ => { mnemonic := .and, mode := .absoluteY, cycles := Config.baseCycles 0x39, documented := true }
  | .rlaAby _ => { mnemonic := .rla, mode := .absoluteY, cycles := Config.baseCycles 0x3B, documented := false }
  | .andAbx _ => { mnemonic := .and, mode := .absoluteX, cycles := Config.baseCycles 0x3D, documented := true }
  | .rolAbx _ => { mnemonic := .rol, mode := .absoluteX, cycles := Config.baseCycles 0x3E, documented := true }
  | .rlaAbx _ => { mnemonic := .rla, mode := .absoluteX, cycles := Config.baseCycles 0x3F, documented := false }
  | .rti => { mnemonic := .rti, mode := .implied, cycles := Config.baseCycles 0x40, documented := true }
  | .eorIzx _ => { mnemonic := .eor, mode := .preIndexedIndirect, cycles := Config.baseCycles 0x41, documented := true }
  | .sreIzx _ => { mnemonic := .sre, mode := .preIndexedIndirect, cycles := Config.baseCycles 0x43, documented := false }
  | .eorZp _ => { mnemonic := .eor, mode := .zeroPage, cycles := Config.baseCycles 0x45, documented := true }
  | .lsrZp _ => { mnemonic := .lsr, mode := .zeroPage, cycles := Config.baseCycles 0x46, documented := true }
  | .sreZp _ => { mnemonic := .sre, mode := .zeroPage, cycles := Config.baseCycles 0x47, documented := false }
  | .pha => { mnemonic := .pha, mode := .implied, cycles := Config.baseCycles 0x48, documented := true }
  | .eorImm _ => { mnemonic := .eor, mode := .immediate, cycles := Config.baseCycles 0x49, documented := true }
  | .lsrAcc => { mnemonic := .lsr, mode := .accumulator, cycles := Config.baseCycles 0x4A, documented := true }
  | .jmpAbs _ => { mnemonic := .jmp, mode := .absolute, cycles := Config.baseCycles 0x4C, documented := true }
  | .eorAbs _ => { mnemonic := .eor, mode := .absolute, cycles := Config.baseCycles 0x4D, documented := true }
  | .lsrAbs _ => { mnemonic := .lsr, mode := .absolute, cycles := Config.baseCycles 0x4E, documented := true }
  | .sreAbs _ => { mnemonic := .sre, mode := .absolute, cycles := Config.baseCycles 0x4F, documented := false }
  | .bvc _ => { mnemonic := .bvc, mode := .relative, cycles := Config.baseCycles 0x50, documented := true }
  | .eorIzy _ => { mnemonic := .eor, mode := .postIndexedIndirect, cycles := Config.baseCycles 0x51, documented := true }
  | .sreIzy _ => { mnemonic := .sre, mode := .postIndexedIndirect, cycles := Config.baseCycles 0x53, documented := false }
  | .eorZpx _ => { mnemonic := .eor, mode := .zeroPageX, cycles := Config.baseCycles 0x55, documented := true }
  | .lsrZpx _ => { mnemonic := .lsr, mode := .zeroPageX, cycles := Config.baseCycles 0x56, documented := true }
  | .sreZpx _ => { mnemonic := .sre, mode := .zeroPageX, cycles := Config.baseCycles 0x57, documented := false }
  | .cli => { mnemonic := .cli, mode := .implied, cycles := Config.baseCycles 0x58, documented := true }
  | .eorAby _ => { mnemonic := .eor, mode := .absoluteY, cycles := Config.baseCycles 0x59, documented := true }
  | .sreAby _ => { mnemonic := .sre, mode := .absoluteY, cycles := Config.baseCycles 0x5B, documented := false }
  | .eorAbx _ => { mnemonic := .eor, mode := .absoluteX, cycles := Config.baseCycles 0x5D, documented := true }
  | .lsrAbx _ => { mnemonic := .lsr, mode := .absoluteX, cycles := Config.baseCycles 0x5E, documented := true }
  | .sreAbx _ => { mnemonic := .sre, mode := .absoluteX, cycles := Config.baseCycles 0x5F, documented := false }
  | .rts => { mnemonic := .rts, mode := .implied, cycles := Config.baseCycles 0x60, documented := true }
  | .adcIzx _ => { mnemonic := .adc, mode := .preIndexedIndirect, cycles := Config.baseCycles 0x61, documented := true }
  | .rraIzx _ => { mnemonic := .rra, mode := .preIndexedIndirect, cycles := Config.baseCycles 0x63, documented := false }
  | .adcZp _ => { mnemonic := .adc, mode := .zeroPage, cycles := Config.baseCycles 0x65, documented := true }
  | .rorZp _ => { mnemonic := .ror, mode := .zeroPage, cycles := Config.baseCycles 0x66, documented := true }
  | .rraZp _ => { mnemonic := .rra, mode := .zeroPage, cycles := Config.baseCycles 0x67, documented := false }
  | .pla => { mnemonic := .pla, mode := .implied, cycles := Config.baseCycles 0x68, documented := true }
  | .adcImm _ => { mnemonic := .adc, mode := .immediate, cycles := Config.baseCycles 0x69, documented := true }
  | .rorAcc => { mnemonic := .ror, mode := .accumulator, cycles := Config.baseCycles 0x6A, documented := true }
  | .jmpInd _ => { mnemonic := .jmp, mode := .indirectAbsolute, cycles := Config.baseCycles 0x6C, documented := true }
  | .adcAbs _ => { mnemonic := .adc, mode := .absolute, cycles := Config.baseCycles 0x6D, documented := true }
  | .rorAbs _ => { mnemonic := .ror, mode := .absolute, cycles := Config.baseCycles 0x6E, documented := true }
  | .rraAbs _ => { mnemonic := .rra, mode := .absolute, cycles := Config.baseCycles 0x6F, documented := false }
  | .bvs _ => { mnemonic := .bvs, mode := .relative, cycles := Config.baseCycles 0x70, documented := true }
  | .adcIzy _ => { mnemonic := .adc, mode := .postIndexedIndirect, cycles := Config.baseCycles 0x71, documented := true }
  | .rraIzy _ => { mnemonic := .rra, mode := .postIndexedIndirect, cycles := Config.baseCycles 0x73, documented := false }
  | .adcZpx _ => { mnemonic := .adc, mode := .zeroPageX, cycles := Config.baseCycles 0x75, documented := true }
  | .rorZpx _ => { mnemonic := .ror, mode := .zeroPageX, cycles := Config.baseCycles 0x76, documented := true }
  | .rraZpx _ => { mnemonic := .rra, mode := .zeroPageX, cycles := Config.baseCycles 0x77, documented := false }
  | .sei => { mnemonic := .sei, mode := .implied, cycles := Config.baseCycles 0x78, documented := true }
  | .adcAby _ => { mnemonic := .adc, mode := .absoluteY, cycles := Config.baseCycles 0x79, documented := true }
  | .rraAby _ => { mnemonic := .rra, mode := .absoluteY, cycles := Config.baseCycles 0x7B, documented := false }
  | .adcAbx _ => { mnemonic := .adc, mode := .absoluteX, cycles := Config.baseCycles 0x7D, documented := true }
  | .rorAbx _ => { mnemonic := .ror, mode := .absoluteX, cycles := Config.baseCycles 0x7E, documented := true }
  | .rraAbx _ => { mnemonic := .rra, mode := .absoluteX, cycles := Config.baseCycles 0x7F, documented := false }
  | .staIzx _ => { mnemonic := .sta, mode := .preIndexedIndirect, cycles := Config.baseCycles 0x81, documented := true }
  | .saxIzx _ => { mnemonic := .sax, mode := .preIndexedIndirect, cycles := Config.baseCycles 0x83, documented := false }
  | .styZp _ => { mnemonic := .sty, mode := .zeroPage, cycles := Config.baseCycles 0x84, documented := true }
  | .staZp _ => { mnemonic := .sta, mode := .zeroPage, cycles := Config.baseCycles 0x85, documented := true }
  | .stxZp _ => { mnemonic := .stx, mode := .zeroPage, cycles := Config.baseCycles 0x86, documented := true }
  | .saxZp _ => { mnemonic := .sax, mode := .zeroPage, cycles := Config.baseCycles 0x87, documented := false }
  | .dey => { mnemonic := .dey, mode := .implied, cycles := Config.baseCycles 0x88, documented := true }
  | .txa => { mnemonic := .txa, mode := .implied, cycles := Config.baseCycles 0x8A, documented := true }
  | .styAbs _ => { mnemonic := .sty, mode := .absolute, cycles := Config.baseCycles 0x8C, documented := true }
  | .staAbs _ => { mnemonic := .sta, mode := .absolute, cycles := Config.baseCycles 0x8D, documented := true }
  | .stxAbs _ => { mnemonic := .stx, mode := .absolute, cycles := Config.baseCycles 0x8E, documented := true }
  | .saxAbs _ => { mnemonic := .sax, mode := .absolute, cycles := Config.baseCycles 0x8F, documented := false }
  | .bcc _ => { mnemonic := .bcc, mode := .relative, cycles := Config.baseCycles 0x90, documented := true }
  | .staIzy _ => { mnemonic := .sta, mode := .postIndexedIndirect, cycles := Config.baseCycles 0x91, documented := true }
  | .styZpx _ => { mnemonic := .sty, mode := .zeroPageX, cycles := Config.baseCycles 0x94, documented := true }
  | .staZpx _ => { mnemonic := .sta, mode := .zeroPageX, cycles := Config.baseCycles 0x95, documented := true }
  | .stxZpy _ => { mnemonic := .stx, mode := .zeroPageY, cycles := Config.baseCycles 0x96, documented := true }
  | .saxZpy _ => { mnemonic := .sax, mode := .zeroPageY, cycles := Config.baseCycles 0x97, documented := false }
  | .tya => { mnemonic := .tya, mode := .implied, cycles := Config.baseCycles 0x98, documented := true }
  | .staAby _ => { mnemonic := .sta, mode := .absoluteY, cycles := Config.baseCycles 0x99, documented := true }
  | .txs => { mnemonic := .txs, mode := .implied, cycles := Config.baseCycles 0x9A, documented := true }
  | .staAbx _ => { mnemonic := .sta, mode := .absoluteX, cycles := Config.baseCycles 0x9D, documented := true }
  | .ldyImm _ => { mnemonic := .ldy, mode := .immediate, cycles := Config.baseCycles 0xA0, documented := true }
  | .ldaIzx _ => { mnemonic := .lda, mode := .preIndexedIndirect, cycles := Config.baseCycles 0xA1, documented := true }
  | .ldxImm _ => { mnemonic := .ldx, mode := .immediate, cycles := Config.baseCycles 0xA2, documented := true }
  | .laxIzx _ => { mnemonic := .lax, mode := .preIndexedIndirect, cycles := Config.baseCycles 0xA3, documented := false }
  | .ldyZp _ => { mnemonic := .ldy, mode := .zeroPage, cycles := Config.baseCycles 0xA4, documented := true }
  | .ldaZp _ => { mnemonic := .lda, mode := .zeroPage, cycles := Config.baseCycles 0xA5, documented := true }
  | .ldxZp _ => { mnemonic := .ldx, mode := .zeroPage, cycles := Config.baseCycles 0xA6, documented := true }
  | .laxZp _ => { mnemonic := .lax, mode := .zeroPage, cycles := Config.baseCycles 0xA7, documented := false }
  | .tay => { mnemonic := .tay, mode := .implied, cycles := Config.baseCycles 0xA8, documented := true }
  | .ldaImm _ => { mnemonic := .lda, mode := .immediate, cycles := Config.baseCycles 0xA9, documented := true }
  | .tax => { mnemonic := .tax, mode := .implied, cycles := Config.baseCycles 0xAA, documented := true }
  | .ldyAbs _ => { mnemonic := .ldy, mode := .absolute, cycles := Config.baseCycles 0xAC, documented := true }
  | .ldaAbs _ => { mnemonic := .lda, mode := .absolute, cycles := Config.baseCycles 0xAD, documented := true }
  | .ldxAbs _ => { mnemonic := .ldx, mode := .absolute, cycles := Config.baseCycles 0xAE, documented := true }
  | .laxAbs _ => { mnemonic := .lax, mode := .absolute, cycles := Config.baseCycles 0xAF, documented := false }
  | .bcs _ => { mnemonic := .bcs, mode := .relative, cycles := Config.baseCycles 0xB0, documented := true }
  | .ldaIzy _ => { mnemonic := .lda, mode := .postIndexedIndirect, cycles := Config.baseCycles 0xB1, documented := true }
  | .laxIzy _ => { mnemonic := .lax, mode := .postIndexedIndirect, cycles := Config.baseCycles 0xB3, documented := false }
  | .ldyZpx _ => { mnemonic := .ldy, mode := .zeroPageX, cycles := Config.baseCycles 0xB4, documented := true }
  | .ldaZpx _ => { mnemonic := .lda, mode := .zeroPageX, cycles := Config.baseCycles 0xB5, documented := true }
  | .ldxZpy _ => { mnemonic := .ldx, mode := .zeroPageY, cycles := Config.baseCycles 0xB6, documented := true }
  | .laxZpy _ => { mnemonic := .lax, mode := .zeroPageY, cycles := Config.baseCycles 0xB7, documented := false }
  | .clv => { mnemonic := .clv, mode := .implied, cycles := Config.baseCycles 0xB8, documented := true }
  | .ldaAby _ => { mnemonic := .lda, mode := .absoluteY, cycles := Config.baseCycles 0xB9, documented := true }
  | .tsx => { mnemonic := .tsx, mode := .implied, cycles := Config.baseCycles 0xBA, documented := true }
  | .ldyAbx _ => { mnemonic := .ldy, mode := .absoluteX, cycles := Config.baseCycles 0xBC, documented := true }
  | .ldaAbx _ => { mnemonic := .lda, mode := .absoluteX, cycles := Config.baseCycles 0xBD, documented := true }
  | .ldxAby _ => { mnemonic := .ldx, mode := .absoluteY, cycles := Config.baseCycles 0xBE, documented := true }
  | .laxAby _ => { mnemonic := .lax, mode := .absoluteY, cycles := Config.baseCycles 0xBF, documented := false }
  | .cpyImm _ => { mnemonic := .cpy, mode := .immediate, cycles := Config.baseCycles 0xC0, documented := true }
  | .cmpIzx _ => { mnemonic := .cmp, mode := .preIndexedIndirect, cycles := Config.baseCycles 0xC1, documented := true }
  | .dcpIzx _ => { mnemonic := .dcp, mode := .preIndexedIndirect, cycles := Config.baseCycles 0xC3, documented := false }
  | .cpyZp _ => { mnemonic := .cpy, mode := .zeroPage, cycles := Config.baseCycles 0xC4, documented := true }
  | .cmpZp _ => { mnemonic := .cmp, mode := .zeroPage, cycles := Config.baseCycles 0xC5, documented := true }
  | .decZp _ => { mnemonic := .dec, mode := .zeroPage, cycles := Config.baseCycles 0xC6, documented := true }
  | .dcpZp _ => { mnemonic := .dcp, mode := .zeroPage, cycles := Config.baseCycles 0xC7, documented := false }
  | .iny => { mnemonic := .iny, mode := .implied, cycles := Config.baseCycles 0xC8, documented := true }
  | .cmpImm _ => { mnemonic := .cmp, mode := .immediate, cycles := Config.baseCycles 0xC9, documented := true }
  | .dex => { mnemonic := .dex, mode := .implied, cycles := Config.baseCycles 0xCA, documented := true }
  | .cpyAbs _ => { mnemonic := .cpy, mode := .absolute, cycles := Config.baseCycles 0xCC, documented := true }
  | .cmpAbs _ => { mnemonic := .cmp, mode := .absolute, cycles := Config.baseCycles 0xCD, documented := true }
  | .decAbs _ => { mnemonic := .dec, mode := .absolute, cycles := Config.baseCycles 0xCE, documented := true }
  | .dcpAbs _ => { mnemonic := .dcp, mode := .absolute, cycles := Config.baseCycles 0xCF, documented := false }
  | .bne _ => { mnemonic := .bne, mode := .relative, cycles := Config.baseCycles 0xD0, documented := true }
  | .cmpIzy _ => { mnemonic := .cmp, mode := .postIndexedIndirect, cycles := Config.baseCycles 0xD1, documented := true }
  | .dcpIzy _ => { mnemonic := .dcp, mode := .postIndexedIndirect, cycles := Config.baseCycles 0xD3, documented := false }
  | .cmpZpx _ => { mnemonic := .cmp, mode := .zeroPageX, cycles := Config.baseCycles 0xD5, documented := true }
  | .decZpx _ => { mnemonic := .dec, mode := .zeroPageX, cycles := Config.baseCycles 0xD6, documented := true }
  | .dcpZpx _ => { mnemonic := .dcp, mode := .zeroPageX, cycles := Config.baseCycles 0xD7, documented := false }
  | .cld => { mnemonic := .cld, mode := .implied, cycles := Config.baseCycles 0xD8, documented := true }
  | .cmpAby _ => { mnemonic := .cmp, mode := .absoluteY, cycles := Config.baseCycles 0xD9, documented := true }
  | .dcpAby _ => { mnemonic := .dcp, mode := .absoluteY, cycles := Config.baseCycles 0xDB, documented := false }
  | .cmpAbx _ => { mnemonic := .cmp, mode := .absoluteX, cycles := Config.baseCycles 0xDD, documented := true }
  | .decAbx _ => { mnemonic := .dec, mode := .absoluteX, cycles := Config.baseCycles 0xDE, documented := true }
  | .dcpAbx _ => { mnemonic := .dcp, mode := .absoluteX, cycles := Config.baseCycles 0xDF, documented := false }
  | .cpxImm _ => { mnemonic := .cpx, mode := .immediate, cycles := Config.baseCycles 0xE0, documented := true }
  | .sbcIzx _ => { mnemonic := .sbc, mode := .preIndexedIndirect, cycles := Config.baseCycles 0xE1, documented := true }
  | .isbIzx _ => { mnemonic := .isb, mode := .preIndexedIndirect, cycles := Config.baseCycles 0xE3, documented := false }
  | .cpxZp _ => { mnemonic := .cpx, mode := .zeroPage, cycles := Config.baseCycles 0xE4, documented := true }
  | .sbcZp _ => { mnemonic := .sbc, mode := .zeroPage, cycles := Config.baseCycles 0xE5, documented := true }
  | .incZp _ => { mnemonic := .inc, mode := .zeroPage, cycles := Config.baseCycles 0xE6, documented := true }
  | .isbZp _ => { mnemonic := .isb, mode := .zeroPage, cycles := Config.baseCycles 0xE7, documented := false }
  | .inx => { mnemonic := .inx, mode := .implied, cycles := Config.baseCycles 0xE8, documented := true }
  | .sbcImm _ => { mnemonic := .sbc, mode := .immediate, cycles := Config.baseCycles 0xE9, documented := true }
  | .nop => { mnemonic := .nop, mode := .implied, cycles := Config.baseCycles 0xEA, documented := true }
  | .cpxAbs _ => { mnemonic := .cpx, mode := .absolute, cycles := Config.baseCycles 0xEC, documented := true }
  | .sbcAbs _ => { mnemonic := .sbc, mode := .absolute, cycles := Config.baseCycles 0xED, documented := true }
  | .incAbs _ => { mnemonic := .inc, mode := .absolute, cycles := Config.baseCycles 0xEE, documented := true }
  | .isbAbs _ => { mnemonic := .isb, mode := .absolute, cycles := Config.baseCycles 0xEF, documented := false }
  | .beq _ => { mnemonic := .beq, mode := .relative, cycles := Config.baseCycles 0xF0, documented := true }
  | .sbcIzy _ => { mnemonic := .sbc, mode := .postIndexedIndirect, cycles := Config.baseCycles 0xF1, documented := true }
  | .isbIzy _ => { mnemonic := .isb, mode := .postIndexedIndirect, cycles := Config.baseCycles 0xF3, documented := false }
  | .sbcZpx _ => { mnemonic := .sbc, mode := .zeroPageX, cycles := Config.baseCycles 0xF5, documented := true }
  | .incZpx _ => { mnemonic := .inc, mode := .zeroPageX, cycles := Config.baseCycles 0xF6, documented := true }
  | .isbZpx _ => { mnemonic := .isb, mode := .zeroPageX, cycles := Config.baseCycles 0xF7, documented := false }
  | .sed => { mnemonic := .sed, mode := .implied, cycles := Config.baseCycles 0xF8, documented := true }
  | .sbcAby _ => { mnemonic := .sbc, mode := .absoluteY, cycles := Config.baseCycles 0xF9, documented := true }
  | .isbAby _ => { mnemonic := .isb, mode := .absoluteY, cycles := Config.baseCycles 0xFB, documented := false }
  | .sbcAbx _ => { mnemonic := .sbc, mode := .absoluteX, cycles := Config.baseCycles 0xFD, documented := true }
  | .incAbx _ => { mnemonic := .inc, mode := .absoluteX, cycles := Config.baseCycles 0xFE, documented := true }
  | .isbAbx _ => { mnemonic := .isb, mode := .absoluteX, cycles := Config.baseCycles 0xFF, documented := false }

/-- The instruction the decoder reads from `w`, whose bits above `nbits` are 0; byte `k` is bits `8k+7 .. 8k`. -/
def decodeTableWord (nbits w : Nat) : Option Instr :=
  let bits := BitVec.ofNat 24 (w % 2 ^ nbits)
  match decode [bits.extractLsb' 0 8, bits.extractLsb' 8 8, bits.extractLsb' 16 8] with
  | .ok (i, _) => some i
  | .error _ => none

end Sys2Proof
end

