-- ==== Sys2Proof/Machine/Memory.lean ====
section
/-! DEFINITION. A memory device as plain data: a list of cells with rising indices in which no entry holds the byte an
unlisted index reads as, so that equal contents are equal lists. Reads and writes are one byte (spec 20_memory R73). -/

namespace Sys2Proof

/-- The byte at device index `i`. -/
def Memory.read : Memory → Nat → Byte
  | [], _ => Config.unlisted
  | (k, b) :: m, i => if k = i then b else Memory.read m i

/-- Drops every entry for index `i`. -/
def Memory.erase : Memory → Nat → Memory
  | [], _ => []
  | (k, b) :: m, i => if k = i then Memory.erase m i else (k, b) :: Memory.erase m i

/-- Puts an entry for `i` before the first entry with a larger index. -/
def Memory.insertCell : Memory → Nat → Byte → Memory
  | [], i, v => [(i, v)]
  | (k, b) :: m, i, v => if i < k then (i, v) :: (k, b) :: m else (k, b) :: Memory.insertCell m i v

/-- Stores `v` at device index `i`, keeping the canonical form. -/
def Memory.write (m : Memory) (i : Nat) (v : Byte) : Memory :=
  if v = Config.unlisted then m.erase i else (m.erase i).insertCell i v

/-- Every index of `m` is above `i`. -/
def Memory.above (i : Nat) (m : Memory) : Bool := m.all fun c => decide (i < c.1)

/-- The canonical form: strictly rising indices, no entry equal to what an unlisted index reads as. -/
def Memory.wf : Memory → Bool
  | [] => true
  | (k, b) :: m => decide (b ≠ Config.unlisted) && Memory.above k m && Memory.wf m

/-- Every index of `m` lies in a device of `size` bytes (R44). -/
def Memory.within (size : Nat) (m : Memory) : Bool := m.all fun c => decide (c.1 < size)

/-- The contents `m` describes for a device of `size` bytes, in canonical form. -/
def Memory.restrict (size : Nat) : Memory → Memory
  | [] => []
  | (k, b) :: m => if k < size then (Memory.restrict size m).write k b else Memory.restrict size m

/-- The canonical memory holding the bytes `bs` from index `i` on. -/
def Memory.ofBytesFrom (i : Nat) : List Byte → Memory
  | [] => []
  | b :: bs =>
    if b = Config.unlisted then Memory.ofBytesFrom (i + 1) bs else (i, b) :: Memory.ofBytesFrom (i + 1) bs

/-- The canonical memory holding the bytes `bs` from index 0 on. -/
def Memory.ofBytes (bs : List Byte) : Memory := Memory.ofBytesFrom 0 bs

end Sys2Proof
end

