-- ==== Sys2Proof/Machine/State.lean ====
section
/-! DEFINITION. Everything the spec gives the machine as state (spec 10_state R20 to R60), the faults (R311, R313), the
refusals, the power-on state (R60) and the state right after reset (R380). -/

namespace Sys2Proof.Machine

/-- The memory devices with a backing buffer (R44): what an address range violation names. -/
inductive Device where
  | workRam
  | programRom
  | vram
  | chr
  | oam
  deriving DecidableEq, Repr

/-- The fatal faults (R15, R310). There is no other (R314). -/
inductive Fault where
  /-- Raised by the CPU step's opcode fetch when the byte `opcode` at `pc` has no entry in the opcode table (R132, R311).
  Safe: the spec itself stops the machine there. -/
  | decodeFailure (opcode : Byte) (pc : Word)
  /-- Raised by the DMA drain when the latched page leaves work RAM (R313, R361); `index` is the first offending index.
  Safe: the spec itself stops the machine there. -/
  | addressRangeViolation (device : Device) (index : Nat)
  deriving DecidableEq, Repr

/-- What the model does not accept. -/
inductive Refusal where
  /-- Answered by a dispatch arm whose instruction has no meaning yet; no arm of this model does. Safe. -/
  | notModelled (mnemonic : String)
  /-- Answered by a machine step and by reset when a fault is recorded (R312, R381, D52). Safe: the spec defines no
  transition there. -/
  | machineFaulted
  /-- Answered by power-on for a program ROM image of a size the spec refuses (R9, D14, U15). Safe. -/
  | prgSizeUnsupported (size : Nat)
  deriving DecidableEq, Repr

/-- `PRG_SIZE` (R9, D14): the two sizes a program ROM image may have. -/
inductive PrgSize where
  | k16
  | k32
  deriving DecidableEq, Repr

/-- The size in bytes. -/
def PrgSize.bytes : PrgSize → Nat
  | .k16 => 0x4000
  | .k32 => 0x8000

/-- The cartridge's constant part (R9, R42, R51): never changed by a step. DESIGN CHOICE (log entry 19): `chrIsRam`
says whether `CHR` is RAM, which R43 and R82 distinguish and no input of the spec tells. -/
structure Cartridge where
  prg : Memory
  prgSize : PrgSize
  chrSize : Nat
  chrIsRam : Bool
  mirrorH : Bool
  deriving DecidableEq, Repr

/-- The eight independent booleans of the status register (R30). -/
structure Flags where
  n : Bool
  v : Bool
  r : Bool
  b : Bool
  d : Bool
  i : Bool
  z : Bool
  c : Bool
  deriving DecidableEq, Repr

/-- The frame output (R352): the finished background and sprite buffers. -/
structure Frame where
  background : List TileRow
  sprites : SpriteList
  deriving DecidableEq, Repr

/-- The whole machine (R60). The last three fields are the model's own: `cycles` and `frame` are the two results a
machine step returns to the host (R370), `frameNo` counts the frames handed out and indexes the host's `keys` input. -/
structure State where
  a : Byte
  x : Byte
  y : Byte
  sp : Byte
  pc : Word
  flags : Flags
  ram : Memory
  dmaLatch : Byte
  nmiRequest : Bool
  ppuCycle : Nat
  ppuLine : Nat
  vblank : Bool
  background : List TileRow
  vram : Memory
  oam : Memory
  chr : Memory
  port : PortState
  keypad : KeyState
  fault : Option Fault
  cart : Cartridge
  cycles : Nat
  frame : Option Frame
  frameNo : Nat
  deriving DecidableEq, Repr

/-- `port0` (R10, R52, D20): `NmiEnable(port0) = false`; its other content is number 0 of an uninterpreted numbering. -/
def PortState.initial : PortState := { nmiEnable := false, code := 0 }

/-- `key0` (R10, R53): number 0 of an uninterpreted numbering. -/
def KeyState.initial : KeyState := { code := 0 }

/-- The flags of `status = 0x34` (R7, R31). -/
def Flags.canonical : Flags :=
  { n := false, v := false, r := true, b := true, d := false, i := true, z := false, c := false }

/-- Power-on (R60, R381): the created machine for a cartridge and given contents of `CHR`, `RAM_INIT`, `VRAM_INIT` and
`OAM_INIT`, which are arguments (R9, R394, D51). -/
def State.powerOn (cart : Cartridge) (chr ramInit vramInit oamInit : Memory) : State where
  a := 0x00
  x := 0x00
  y := 0x00
  sp := 0xFD
  pc := 0x8000
  flags := Flags.canonical
  ram := ramInit
  dmaLatch := 0x00
  nmiRequest := false
  ppuCycle := 0
  ppuLine := 0
  vblank := false
  background := []
  vram := vramInit
  oam := oamInit
  chr := chr
  port := PortState.initial
  keypad := KeyState.initial
  fault := none
  cart := cart
  cycles := 0
  frame := none
  frameNo := 0

/-- DESIGN CHOICE (log entry 2): the cartridge State.reset is made with, a 32 KiB image that lists nothing. -/
def Cartridge.blank : Cartridge where
  prg := []
  prgSize := .k32
  chrSize := 0x2000
  chrIsRam := false
  mirrorH := false

/-- The machine right after reset (R380 applied to the power-on state of R60, with no memory cell listed): every register
at its canonical value and `PC` the little-endian word at `0xFFFC`, bytes `0x7FFC` and `0x7FFD` of the image (R383). -/
def State.reset : State where
  a := 0x00
  x := 0x00
  y := 0x00
  sp := 0xFD
  pc := wordOf (Memory.read Cartridge.blank.prg 0x7FFD) (Memory.read Cartridge.blank.prg 0x7FFC)
  flags := Flags.canonical
  ram := []
  dmaLatch := 0x00
  nmiRequest := false
  ppuCycle := 0
  ppuLine := 0
  vblank := false
  background := []
  vram := []
  oam := []
  chr := []
  port := PortState.initial
  keypad := KeyState.initial
  fault := none
  cart := Cartridge.blank
  cycles := 0
  frame := none
  frameNo := 0

end Sys2Proof.Machine
end

