-- ==== Sys2Proof/Machine/Flags.lean ====
section
/-! DEFINITION. The status byte and every flag computation (spec 10_state R30 to R39, 43 R200 to R202, 44 R227 to R230). -/

namespace Sys2Proof.Machine

/-- `SetZN(v)` (R14, R39). -/
def setZN (v : Byte) (f : Flags) : Flags := { f with z := v == 0x00, n := v.getLsbD 7 }

/-- One flag as the byte whose bit 0 it is. -/
def flagBit (p : Bool) : Byte := if p then 0x01 else 0x00

/-- `GetP()` (R34): bit 5 always reads 1. -/
def getP (f : Flags) : Byte :=
  (flagBit f.n <<< 7) ||| (flagBit f.v <<< 6) ||| (0x01#8 <<< 5) ||| (flagBit f.b <<< 4) ||| (flagBit f.d <<< 3)
    ||| (flagBit f.i <<< 2) ||| (flagBit f.z <<< 1) ||| flagBit f.c

/-- `SetP(b)` (R35): every flag takes its bit, the reserved flag is forced true. -/
def setP (p : Byte) : Flags where
  n := p.getLsbD 7
  v := p.getLsbD 6
  r := true
  b := p.getLsbD 4
  d := p.getLsbD 3
  i := p.getLsbD 2
  z := p.getLsbD 1
  c := p.getLsbD 0

/-- The overflow rule (R38): the operand had the accumulator's sign and the result has not. -/
def overflow (a operand result : Byte) : Bool :=
  ((a ^^^ operand) &&& 0x80#8) == 0x00#8 && ((a ^^^ result) &&& 0x80#8) != 0x00#8

/-- `AddCore(m)` (R200): the new accumulator and flags; `D` is not read (R33). -/
def addCore (a m : Byte) (f : Flags) : Byte × Flags :=
  let sum := a.toNat + m.toNat + f.c.toNat
  let result := BitVec.ofNat 8 sum
  (result, setZN result { f with v := overflow a m result, c := decide (0xFF < sum) })

/-- `Compare(r, m)` (R202): no borrow in, `V` unchanged, nothing stored. -/
def compareFlags (r m : Byte) (f : Flags) : Flags := setZN (r - m) { f with c := decide (m.toNat ≤ r.toNat) }

/-- BIT's flags (R234). -/
def bitTest (a m : Byte) (f : Flags) : Flags :=
  { f with z := (a &&& m) == 0x00, n := m.getLsbD 7, v := m.getLsbD 6 }

/-- INC's byte function (R221). -/
def incByte (old : Byte) (f : Flags) : Byte × Flags := (old + 1, f)

/-- DEC's byte function (R222). -/
def decByte (old : Byte) (f : Flags) : Byte × Flags := (old - 1, f)

/-- ASL's byte function (R227). -/
def aslByte (old : Byte) (f : Flags) : Byte × Flags := (old <<< 1, { f with c := old.getLsbD 7 })

/-- LSR's byte function (R228). -/
def lsrByte (old : Byte) (f : Flags) : Byte × Flags := (old >>> 1, { f with c := old.getLsbD 0 })

/-- ROL's byte function (R229): the old carry enters bit 0. -/
def rolByte (old : Byte) (f : Flags) : Byte × Flags :=
  ((old <<< 1) ||| flagBit f.c, { f with c := old.getLsbD 7 })

/-- ROR's byte function (R230): the old carry enters bit 7. -/
def rorByte (old : Byte) (f : Flags) : Byte × Flags :=
  ((old >>> 1) ||| (flagBit f.c <<< 7), { f with c := old.getLsbD 0 })

end Sys2Proof.Machine
end

