-- ==== Sys2Proof/Machine/Ops.lean ====
section
/-! DEFINITION. The named operations over registers, the bus and the stack (spec 20_memory R80 to R89, 42_stack R190), and
the entry into and return from an interrupt (R264, R330, R262). -/

namespace Sys2Proof.Machine

/-! ## Register updates -/

/-- `A <- v` (R20). -/
def State.setA (s : State) (v : Byte) : State := { s with a := v }

/-- `X <- v` (R21). -/
def State.setX (s : State) (v : Byte) : State := { s with x := v }

/-- `Y <- v` (R22). -/
def State.setY (s : State) (v : Byte) : State := { s with y := v }

/-- `SP <- v` (R23). -/
def State.setSp (s : State) (v : Byte) : State := { s with sp := v }

/-- `PC <- v` (R24). -/
def State.setPc (s : State) (v : Word) : State := { s with pc := v }

/-- Replaces the eight flags (R30). -/
def State.setFlags (s : State) (f : Flags) : State := { s with flags := f }

/-- `SetZN(v)` on the machine's flags (R14). -/
def State.setZN (s : State) (v : Byte) : State := s.setFlags (Machine.setZN v s.flags)

/-- Adds `n` CPU cycles to the cost the step in progress will return (R126, R370). -/
def State.charge (s : State) (n : Nat) : State := { s with cycles := s.cycles + n }

/-- The registers the host can read by name (R58). -/
inductive RegName where
  | a
  | x
  | y
  | sp
  | pc
  | p
  deriving DecidableEq, Repr

/-- `get(register)` (R58): the byte registers zero-extended, `P` as `GetP()`. -/
def State.get (s : State) : RegName → Word
  | .a => zext16 s.a
  | .x => zext16 s.x
  | .y => zext16 s.y
  | .sp => zext16 s.sp
  | .pc => s.pc
  | .p => zext16 (getP s.flags)

/-! ## The address decoder -/

/-- The targets of the bus (R88): a device with the index or register the address selects, or nothing. -/
inductive Region where
  | ram (index : Nat)
  | port (register : BitVec 3)
  | dmaTrigger
  | keypad
  | rom (offset : Nat)
  | unmapped
  deriving DecidableEq, Repr

/-- The address decoder (R80, R81, R88). -/
def regionOf (addr : Word) : Region :=
  if addr.toNat < Config.ramWindowEnd then .ram (addr.toNat % Config.ramSize)
  else if addr.toNat < Config.ppuWindowEnd then .port (addr.extractLsb' 0 3)
  else if addr.toNat = Config.dmaAddr then .dmaTrigger
  else if addr.toNat = Config.keypadAddr then .keypad
  else if Config.romBase ≤ addr.toNat then .rom (addr.toNat - Config.romBase)
  else .unmapped

/-- A program ROM byte: a 16 KiB image appears twice in the window (R85). -/
def Cartridge.romByte (cart : Cartridge) (offset : Nat) : Byte := cart.prg.read (offset % cart.prgSize.bytes)

/-- The character buffer, with its size, that the collaborators see (R9, R10, R43). -/
def State.chrBuffer (s : State) : ChrBuffer := { cells := s.chr, size := s.cart.chrSize }

/-- The PPU memories the port sees (R10). -/
def State.ppuMem (s : State) : PpuMem := { vram := s.vram, chr := s.chrBuffer, oam := s.oam }

/-- Takes over what the port answered (R82): its own state and the PPU memories, `CHR` only when it is RAM and at
its own size (R43). Log entries 4 and 21. -/
def State.afterPort (s : State) (p : PortState) (m : PpuMem) : State :=
  { s with
    port := p
    vram := m.vram.restrict Config.vramSize
    chr := if s.cart.chrIsRam then m.chr.cells.restrict s.cart.chrSize else s.chr
    oam := m.oam.restrict Config.oamSize }

/-- `MemRead(addr, 1)` (R80): the byte, and the machine after the addressed device's side effect (R74). -/
def busRead (addr : Word) (s : State) : Byte × State :=
  match regionOf addr with
  | .ram i => (s.ram.read i, s)
  | .port r =>
    let answer := Config.portRead s.port s.ppuMem r
    (answer.1, s.afterPort answer.2.1 answer.2.2)
  | .dmaTrigger => (Config.fill, s)
  | .keypad =>
    let answer := Config.keyRead s.keypad
    (answer.1, { s with keypad := answer.2 })
  | .rom offset => (s.cart.romByte offset, s)
  | .unmapped => (Config.fill, s)

/-- A write to program ROM, as `ROM_WRITE` says (R85, D16): ignored. DESIGN CHOICE (log entry 20): the choice `fatal`, which
the spec does not take, records a violation of the program ROM that ends the instruction. -/
def romWriteAttempt (offset : Nat) (s : State) : State :=
  match Config.romWrite with
  | .ignore => s
  | .fatal => { s with fault := some (.addressRangeViolation .programRom offset) }

/-- `MemWrite(addr, 1, v)` (R81). A write to program ROM or to an unmapped address changes nothing (R84, R85, D16). -/
def busWrite (addr : Word) (v : Byte) (s : State) : State :=
  match regionOf addr with
  | .ram i => { s with ram := s.ram.write i v }
  | .port r =>
    let answer := Config.portWrite s.port s.ppuMem r v
    s.afterPort answer.1 answer.2
  | .dmaTrigger => { s with dmaLatch := v }
  | .keypad => { s with keypad := Config.keyWrite s.keypad v }
  | .rom offset => romWriteAttempt offset s
  | .unmapped => s

/-- `MemRead(addr, 2)` (R13), the vector read: low byte first. -/
def readVector (addr : Word) (s : State) : Word × State :=
  let lo := busRead addr s
  let hi := busRead (addr + 1) lo.2
  (wordOf hi.1 lo.1, hi.2)

/-! ## The stack -/

/-- `0x0100 | SP` (R190). -/
def stackAddr (sp : Byte) : Word := 0x0100#16 ||| zext16 sp

/-- `Push(v)` (R14, R190): write, then decrement. -/
def push (v : Byte) (s : State) : State := (busWrite (stackAddr s.sp) v s).setSp (s.sp - 1)

/-- `Pop()` (R14, R190): increment, then read. -/
def pop (s : State) : Byte × State := busRead (stackAddr (s.sp + 1)) (s.setSp (s.sp + 1))

/-- Pushes a 16-bit value, high byte first (R71, R260). -/
def pushWord (w : Word) (s : State) : State := push (loByte w) (push (hiByte w) s)

/-- Pops a 16-bit value, low byte first (R261). -/
def popWord (s : State) : Word × State :=
  let lo := pop s
  let hi := pop lo.2
  (wordOf hi.1 lo.1, hi.2)

/-! ## Interrupt entry and return -/

/-- The three pushes of BRK and of the NMI entry (R264, R330): the address, high byte first, then the status byte `p`. -/
def pushFrame (ret : Word) (p : Byte) (s : State) : State := push p (pushWord ret s)

/-- Enters an interrupt (R264, R330): saves `ret` and `p` on the stack, sets `I`, loads `PC` from `vector`. -/
def enterInterrupt (ret : Word) (p : Byte) (vector : Word) (s : State) : State :=
  let saved := pushFrame ret p s
  let masked := saved.setFlags { saved.flags with i := true }
  let target := readVector vector masked
  target.2.setPc target.1

/-- Returns from an interrupt (R262): the status byte, then the address, with no `+ 1`. -/
def returnFromInterrupt (s : State) : State :=
  let p := pop s
  let ret := popWord (p.2.setFlags (setP p.1))
  ret.2.setPc ret.1

/-- `NmiEntry()` (R330): clears the request and pushes the status byte with the break bit clear; 7 cycles. -/
def nmiEntry (s : State) : State :=
  (enterInterrupt s.pc (getP s.flags &&& 0xEF#8) Config.nmiVector { s with nmiRequest := false }).charge
    Config.nmiCycles

/-! ## Outcomes of the parts of a machine step -/

/-- How a part of a machine step ends (R15): with a state, or by raising a fault in a state, or not accepted. -/
inductive Progress where
  | ok (s : State)
  | raised (f : Fault) (s : State)
  | refused (r : Refusal)
  deriving DecidableEq, Repr

end Sys2Proof.Machine
end

