-- ==== Sys2Proof/Machine/Operands.lean ====
section
/-! DEFINITION. The addressing modes (spec 40_addressing_modes R150 to R164) and the operand forms the instructions are
built from. On entry `PC` is past the instruction (R25), whose operand bytes are already in hand. -/

namespace Sys2Proof.Machine

/-- The modes that resolve to the address of a memory operand (R154 to R162), with their operand bytes. -/
inductive Addressing where
  | zeroPage (z : Byte)
  | zeroPageX (z : Byte)
  | zeroPageY (z : Byte)
  | absolute (w : Word)
  | absoluteX (w : Word)
  | absoluteY (w : Word)
  | preIndexedIndirect (z : Byte)
  | postIndexedIndirect (z : Byte)
  | indirectAbsolute (w : Word)
  deriving DecidableEq, Repr

/-- What an instruction that reads its operand reads (R123): the operand byte itself, or memory. -/
inductive Source where
  | imm (v : Byte)
  | mem (m : Addressing)
  deriving DecidableEq, Repr

/-- The little-endian pointer in page 0 at `z` and `(z + 1) & 0xFF` (R160, R161, D45). -/
def zeroPagePointer (z : Byte) (s : State) : Word × State :=
  let lo := busRead (zext16 z) s
  let hi := busRead (zext16 (z + 1)) lo.2
  (wordOf hi.1 lo.1, hi.2)

/-- The pointer of JMP's indirect form, whose second byte stays in the first's page (R162). -/
def samePagePointer (ptr : Word) (s : State) : Word × State :=
  let lo := busRead ptr s
  let hi := busRead ((ptr &&& 0xFF00#16) ||| ((ptr + 1) &&& 0x00FF#16)) lo.2
  (wordOf hi.1 lo.1, hi.2)

/-- `Resolve(mode)` for the modes that yield an address (R154 to R162), and the machine after the pointer reads. -/
def resolve : Addressing → State → Word × State
  | .zeroPage z, s => (zext16 z, s)
  | .zeroPageX z, s => (zext16 (z + s.x), s)
  | .zeroPageY z, s => (zext16 (z + s.y), s)
  | .absolute w, s => (w, s)
  | .absoluteX w, s => (w + zext16 s.x, s)
  | .absoluteY w, s => (w + zext16 s.y, s)
  | .preIndexedIndirect z, s => zeroPagePointer (z + s.x) s
  | .postIndexedIndirect z, s =>
    let base := zeroPagePointer z s
    (base.1 + zext16 s.y, base.2)
  | .indirectAbsolute w, s => samePagePointer w s

/-- `Resolve(Relative)` (R153): the branch target, from `PC` after the offset byte. -/
def branchTarget (d : Byte) (s : State) : Word := s.pc + sext16 d

/-- The address before the index is added, for the modes whose index may leave the page (R158, R159, R161). -/
def indexBase : Addressing → State → Option Word
  | .absoluteX w, _ => some w
  | .absoluteY w, _ => some w
  | .postIndexedIndirect z, s => some (zeroPagePointer z s).1
  | _, _ => none

/-- The extra cycles of an indexed read that crosses a page: `PAGE_CROSS_READ_PENALTY`, fixed at 0 (R126, R403, D41). -/
def readPenalty : Source → State → Nat
  | .imm _, _ => 0
  | .mem m, s =>
    match indexBase m s with
    | none => 0
    | some base => if samePage base (resolve m s).1 then 0 else Config.pageCrossReadPenalty

/-- `Operand()` (R123): no data read for an immediate, one read at the effective address otherwise (R93). -/
def readOperand : Source → State → Byte × State
  | .imm v, s => (v, s)
  | .mem m, s =>
    let ea := resolve m s
    busRead ea.1 ea.2

/-- An instruction that reads one operand byte, hands it to `use` and costs `cost` cycles. -/
def withOperand (src : Source) (cost : Nat) (use : Byte → State → State) (s : State) : State :=
  let m := readOperand src s
  (use m.1 m.2).charge (cost + readPenalty src s)

/-- An instruction that stores one byte at its effective address, without reading it (R93, R174). -/
def storeAt (m : Addressing) (cost : Nat) (value : State → Byte) (s : State) : State :=
  let ea := resolve m s
  (busWrite ea.1 (value ea.2) ea.2).charge cost

/-- `RMW(f)` (R220): one read, then one write of the new byte at the same address; `f` may set the carry. -/
def readModifyWrite (f : Byte → Flags → Byte × Flags) (m : Addressing) (s : State) : Byte × State :=
  let ea := resolve m s
  let old := busRead ea.1 ea.2
  let new := f old.1 old.2.flags
  (new.1, busWrite ea.1 new.1 (old.2.setFlags new.2))

/-- A read-modify-write instruction (R220, R290): `andThen` uses the byte just written. -/
def modifyAt (f : Byte → Flags → Byte × Flags) (m : Addressing) (cost : Nat) (andThen : Byte → State → State)
    (s : State) : State :=
  let v := readModifyWrite f m s
  (andThen v.1 v.2).charge cost

/-- A shift in Accumulator mode (R151, R220): `A <- f(A)`, no memory access. -/
def modifyA (f : Byte → Flags → Byte × Flags) (cost : Nat) (s : State) : State :=
  let new := f s.a s.flags
  (((s.setA new.1).setFlags new.2).setZN new.1).charge cost

/-! ## What an operand byte is used for -/

/-- `A <- v; SetZN(A)` (R171, R178, R180, R192). -/
def useLoadA (v : Byte) (s : State) : State := (s.setA v).setZN v

/-- `X <- v; SetZN(X)` (R172, R177, R181). -/
def useLoadX (v : Byte) (s : State) : State := (s.setX v).setZN v

/-- `Y <- v; SetZN(Y)` (R173, R179). -/
def useLoadY (v : Byte) (s : State) : State := (s.setY v).setZN v

/-- `A <- v; X <- v; SetZN(v)` (R291). -/
def useLoadAX (v : Byte) (s : State) : State := ((s.setA v).setX v).setZN v

/-- `AddCore(v)` on the machine (R200). -/
def useAdd (v : Byte) (s : State) : State :=
  let sum := addCore s.a v s.flags
  (s.setA sum.1).setFlags sum.2

/-- `AddCore(v ^ 0xFF)` (R201, D31). -/
def useSubtract (v : Byte) (s : State) : State := useAdd (v ^^^ 0xFF#8) s

/-- `Compare(A, v)` (R203). -/
def useCompareA (v : Byte) (s : State) : State := s.setFlags (compareFlags s.a v s.flags)

/-- `Compare(X, v)` (R204). -/
def useCompareX (v : Byte) (s : State) : State := s.setFlags (compareFlags s.x v s.flags)

/-- `Compare(Y, v)` (R205). -/
def useCompareY (v : Byte) (s : State) : State := s.setFlags (compareFlags s.y v s.flags)

/-- `A <- A & v; SetZN(A)` (R231). -/
def useAnd (v : Byte) (s : State) : State := useLoadA (s.a &&& v) s

/-- `A <- A | v; SetZN(A)` (R232). -/
def useOr (v : Byte) (s : State) : State := useLoadA (s.a ||| v) s

/-- `A <- A ^ v; SetZN(A)` (R233). -/
def useXor (v : Byte) (s : State) : State := useLoadA (s.a ^^^ v) s

/-- BIT (R234). -/
def useBitTest (v : Byte) (s : State) : State := s.setFlags (bitTest s.a v s.flags)

/-- `SetZN(v)` (R221, R222, R227 to R230). -/
def useSetZN (v : Byte) (s : State) : State := s.setZN v

end Sys2Proof.Machine
end

