-- ==== Sys2Proof/Machine/ArithCompare.lean ====
section
/-! DEFINITION. Addition, subtraction and the compares (spec 43_arithmetic_compare R200 to R208): one meaning per row of the opcode table, on a machine
whose `PC` is past the instruction; each charges its `CYCLES` entry (R8). -/

namespace Sys2Proof.Machine

/-- `61` ADC, PreIndexedIndirect (R200). -/
def execAdcIzx (z : Byte) (s : State) : Host.Outcome State Fault Refusal :=
  .next (withOperand (.mem (.preIndexedIndirect z)) (Config.baseCycles 0x61) useAdd s)

/-- `65` ADC, ZeroPage (R200). -/
def execAdcZp (z : Byte) (s : State) : Host.Outcome State Fault Refusal :=
  .next (withOperand (.mem (.zeroPage z)) (Config.baseCycles 0x65) useAdd s)

/-- `69` ADC, Immediate (R200). -/
def execAdcImm (v : Byte) (s : State) : Host.Outcome State Fault Refusal :=
  .next (withOperand (.imm v) (Config.baseCycles 0x69) useAdd s)

/-- `6D` ADC, Absolute (R200). -/
def execAdcAbs (w : Word) (s : State) : Host.Outcome State Fault Refusal :=
  .next (withOperand (.mem (.absolute w)) (Config.baseCycles 0x6D) useAdd s)

/-- `71` ADC, PostIndexedIndirect (R200). -/
def execAdcIzy (z : Byte) (s : State) : Host.Outcome State Fault Refusal :=
  .next (withOperand (.mem (.postIndexedIndirect z)) (Config.baseCycles 0x71) useAdd s)

/-- `75` ADC, ZeroPageX (R200). -/
def execAdcZpx (z : Byte) (s : State) : Host.Outcome State Fault Refusal :=
  .next (withOperand (.mem (.zeroPageX z)) (Config.baseCycles 0x75) useAdd s)

/-- `79` ADC, AbsoluteY (R200). -/
def execAdcAby (w : Word) (s : State) : Host.Outcome State Fault Refusal :=
  .next (withOperand (.mem (.absoluteY w)) (Config.baseCycles 0x79) useAdd s)

/-- `7D` ADC, AbsoluteX (R200). -/
def execAdcAbx (w : Word) (s : State) : Host.Outcome State Fault Refusal :=
  .next (withOperand (.mem (.absoluteX w)) (Config.baseCycles 0x7D) useAdd s)

/-- `E1` SBC, PreIndexedIndirect (R201). -/
def execSbcIzx (z : Byte) (s : State) : Host.Outcome State Fault Refusal :=
  .next (withOperand (.mem (.preIndexedIndirect z)) (Config.baseCycles 0xE1) useSubtract s)

/-- `E5` SBC, ZeroPage (R201). -/
def execSbcZp (z : Byte) (s : State) : Host.Outcome State Fault Refusal :=
  .next (withOperand (.mem (.zeroPage z)) (Config.baseCycles 0xE5) useSubtract s)

/-- `E9` SBC, Immediate (R201). -/
def execSbcImm (v : Byte) (s : State) : Host.Outcome State Fault Refusal :=
  .next (withOperand (.imm v) (Config.baseCycles 0xE9) useSubtract s)

/-- `ED` SBC, Absolute (R201). -/
def execSbcAbs (w : Word) (s : State) : Host.Outcome State Fault Refusal :=
  .next (withOperand (.mem (.absolute w)) (Config.baseCycles 0xED) useSubtract s)

/-- `F1` SBC, PostIndexedIndirect (R201). -/
def execSbcIzy (z : Byte) (s : State) : Host.Outcome State Fault Refusal :=
  .next (withOperand (.mem (.postIndexedIndirect z)) (Config.baseCycles 0xF1) useSubtract s)

/-- `F5` SBC, ZeroPageX (R201). -/
def execSbcZpx (z : Byte) (s : State) : Host.Outcome State Fault Refusal :=
  .next (withOperand (.mem (.zeroPageX z)) (Config.baseCycles 0xF5) useSubtract s)

/-- `F9` SBC, AbsoluteY (R201). -/
def execSbcAby (w : Word) (s : State) : Host.Outcome State Fault Refusal :=
  .next (withOperand (.mem (.absoluteY w)) (Config.baseCycles 0xF9) useSubtract s)

/-- `FD` SBC, AbsoluteX (R201). -/
def execSbcAbx (w : Word) (s : State) : Host.Outcome State Fault Refusal :=
  .next (withOperand (.mem (.absoluteX w)) (Config.baseCycles 0xFD) useSubtract s)

/-- `C1` CMP, PreIndexedIndirect (R203). -/
def execCmpIzx (z : Byte) (s : State) : Host.Outcome State Fault Refusal :=
  .next (withOperand (.mem (.preIndexedIndirect z)) (Config.baseCycles 0xC1) useCompareA s)

/-- `C5` CMP, ZeroPage (R203). -/
def execCmpZp (z : Byte) (s : State) : Host.Outcome State Fault Refusal :=
  .next (withOperand (.mem (.zeroPage z)) (Config.baseCycles 0xC5) useCompareA s)

/-- `C9` CMP, Immediate (R203). -/
def execCmpImm (v : Byte) (s : State) : Host.Outcome State Fault Refusal :=
  .next (withOperand (.imm v) (Config.baseCycles 0xC9) useCompareA s)

/-- `CD` CMP, Absolute (R203). -/
def execCmpAbs (w : Word) (s : State) : Host.Outcome State Fault Refusal :=
  .next (withOperand (.mem (.absolute w)) (Config.baseCycles 0xCD) useCompareA s)

/-- `D1` CMP, PostIndexedIndirect (R203). -/
def execCmpIzy (z : Byte) (s : State) : Host.Outcome State Fault Refusal :=
  .next (withOperand (.mem (.postIndexedIndirect z)) (Config.baseCycles 0xD1) useCompareA s)

/-- `D5` CMP, ZeroPageX (R203). -/
def execCmpZpx (z : Byte) (s : State) : Host.Outcome State Fault Refusal :=
  .next (withOperand (.mem (.zeroPageX z)) (Config.baseCycles 0xD5) useCompareA s)

/-- `D9` CMP, AbsoluteY (R203). -/
def execCmpAby (w : Word) (s : State) : Host.Outcome State Fault Refusal :=
  .next (withOperand (.mem (.absoluteY w)) (Config.baseCycles 0xD9) useCompareA s)

/-- `DD` CMP, AbsoluteX (R203). -/
def execCmpAbx (w : Word) (s : State) : Host.Outcome State Fault Refusal :=
  .next (withOperand (.mem (.absoluteX w)) (Config.baseCycles 0xDD) useCompareA s)

/-- `E0` CPX, Immediate (R204). -/
def execCpxImm (v : Byte) (s : State) : Host.Outcome State Fault Refusal :=
  .next (withOperand (.imm v) (Config.baseCycles 0xE0) useCompareX s)

/-- `E4` CPX, ZeroPage (R204). -/
def execCpxZp (z : Byte) (s : State) : Host.Outcome State Fault Refusal :=
  .next (withOperand (.mem (.zeroPage z)) (Config.baseCycles 0xE4) useCompareX s)

/-- `EC` CPX, Absolute (R204). -/
def execCpxAbs (w : Word) (s : State) : Host.Outcome State Fault Refusal :=
  .next (withOperand (.mem (.absolute w)) (Config.baseCycles 0xEC) useCompareX s)

/-- `C0` CPY, Immediate (R205). -/
def execCpyImm (v : Byte) (s : State) : Host.Outcome State Fault Refusal :=
  .next (withOperand (.imm v) (Config.baseCycles 0xC0) useCompareY s)

/-- `C4` CPY, ZeroPage (R205). -/
def execCpyZp (z : Byte) (s : State) : Host.Outcome State Fault Refusal :=
  .next (withOperand (.mem (.zeroPage z)) (Config.baseCycles 0xC4) useCompareY s)

/-- `CC` CPY, Absolute (R205). -/
def execCpyAbs (w : Word) (s : State) : Host.Outcome State Fault Refusal :=
  .next (withOperand (.mem (.absolute w)) (Config.baseCycles 0xCC) useCompareY s)

end Sys2Proof.Machine
end

