-- ==== Sys2Proof/Machine/ControlFlags.lean ====
section
/-! DEFINITION. Branches, jumps, calls, returns, BRK, the flag instructions and NOP (spec 45_control_flow_flags R250 to R278): one meaning per row of the opcode table, on a machine
whose `PC` is past the instruction; each charges its `CYCLES` entry (R8). -/

namespace Sys2Proof.Machine

/-- `Branch(cond)` (R250, D42): 1 cycle more when taken to the page of the next instruction, 2 when to another. -/
def branch (taken : Bool) (d : Byte) (cost : Nat) (s : State) : State :=
  let target := branchTarget d s
  if taken then
    if samePage target s.pc then (s.setPc target).charge (cost + 1) else (s.setPc target).charge (cost + 2)
  else s.charge cost

/-- `PC <- ea` (R259); no read is made at the target. -/
def jumpTo (m : Addressing) (s : State) : State :=
  let ea := resolve m s
  ea.2.setPc ea.1

/-- JSR (R260): pushes the address of its own last byte. -/
def callSubroutine (w : Word) (s : State) : State := (pushWord (s.pc - 1) s).setPc w

/-- RTS (R261). -/
def returnFromSubroutine (s : State) : State :=
  let ret := popWord s
  ret.2.setPc (ret.1 + 1)

/-- BRK (R264, D32): the three pushes always, the vector and `I` only when `I` was clear. On entry `PC` is `pc0 + 1`. -/
def breakSequence (s : State) : State :=
  let marked := s.setFlags { s.flags with b := true }
  if s.flags.i then pushFrame (s.pc + 1) (getP marked.flags) marked
  else enterInterrupt (s.pc + 1) (getP marked.flags) Config.irqVector marked

/-- `90` BCC, Relative (R251). -/
def execBcc (d : Byte) (s : State) : Host.Outcome State Fault Refusal :=
  .next (branch (!s.flags.c) d (Config.baseCycles 0x90) s)

/-- `B0` BCS, Relative (R252). -/
def execBcs (d : Byte) (s : State) : Host.Outcome State Fault Refusal :=
  .next (branch s.flags.c d (Config.baseCycles 0xB0) s)

/-- `F0` BEQ, Relative (R253). -/
def execBeq (d : Byte) (s : State) : Host.Outcome State Fault Refusal :=
  .next (branch s.flags.z d (Config.baseCycles 0xF0) s)

/-- `D0` BNE, Relative (R254). -/
def execBne (d : Byte) (s : State) : Host.Outcome State Fault Refusal :=
  .next (branch (!s.flags.z) d (Config.baseCycles 0xD0) s)

/-- `30` BMI, Relative (R255). -/
def execBmi (d : Byte) (s : State) : Host.Outcome State Fault Refusal :=
  .next (branch s.flags.n d (Config.baseCycles 0x30) s)

/-- `10` BPL, Relative (R256). -/
def execBpl (d : Byte) (s : State) : Host.Outcome State Fault Refusal :=
  .next (branch (!s.flags.n) d (Config.baseCycles 0x10) s)

/-- `50` BVC, Relative (R257). -/
def execBvc (d : Byte) (s : State) : Host.Outcome State Fault Refusal :=
  .next (branch (!s.flags.v) d (Config.baseCycles 0x50) s)

/-- `70` BVS, Relative (R258). -/
def execBvs (d : Byte) (s : State) : Host.Outcome State Fault Refusal :=
  .next (branch s.flags.v d (Config.baseCycles 0x70) s)

/-- `4C` JMP, Absolute (R259). -/
def execJmpAbs (w : Word) (s : State) : Host.Outcome State Fault Refusal :=
  .next ((jumpTo (.absolute w) s).charge (Config.baseCycles 0x4C))

/-- `6C` JMP, IndirectAbsolute (R259). -/
def execJmpInd (w : Word) (s : State) : Host.Outcome State Fault Refusal :=
  .next ((jumpTo (.indirectAbsolute w) s).charge (Config.baseCycles 0x6C))

/-- `20` JSR, Absolute (R260). -/
def execJsr (w : Word) (s : State) : Host.Outcome State Fault Refusal :=
  .next ((callSubroutine w s).charge (Config.baseCycles 0x20))

/-- `60` RTS, Implied (R261). -/
def execRts (s : State) : Host.Outcome State Fault Refusal :=
  .next ((returnFromSubroutine s).charge (Config.baseCycles 0x60))

/-- `40` RTI, Implied (R262). -/
def execRti (s : State) : Host.Outcome State Fault Refusal :=
  .next ((returnFromInterrupt s).charge (Config.baseCycles 0x40))

/-- `00` BRK, Implied (R264). -/
def execBrk (s : State) : Host.Outcome State Fault Refusal :=
  .next ((breakSequence s).charge (Config.baseCycles 0x00))

/-- `18` CLC, Implied (R270). -/
def execClc (s : State) : Host.Outcome State Fault Refusal :=
  .next ((s.setFlags { s.flags with c := false }).charge (Config.baseCycles 0x18))

/-- `38` SEC, Implied (R271). -/
def execSec (s : State) : Host.Outcome State Fault Refusal :=
  .next ((s.setFlags { s.flags with c := true }).charge (Config.baseCycles 0x38))

/-- `58` CLI, Implied (R272). -/
def execCli (s : State) : Host.Outcome State Fault Refusal :=
  .next ((s.setFlags { s.flags with i := false }).charge (Config.baseCycles 0x58))

/-- `78` SEI, Implied (R273). -/
def execSei (s : State) : Host.Outcome State Fault Refusal :=
  .next ((s.setFlags { s.flags with i := true }).charge (Config.baseCycles 0x78))

/-- `B8` CLV, Implied (R274). -/
def execClv (s : State) : Host.Outcome State Fault Refusal :=
  .next ((s.setFlags { s.flags with v := false }).charge (Config.baseCycles 0xB8))

/-- `D8` CLD, Implied (R275). -/
def execCld (s : State) : Host.Outcome State Fault Refusal :=
  .next ((s.setFlags { s.flags with d := false }).charge (Config.baseCycles 0xD8))

/-- `F8` SED, Implied (R276). -/
def execSed (s : State) : Host.Outcome State Fault Refusal :=
  .next ((s.setFlags { s.flags with d := true }).charge (Config.baseCycles 0xF8))

/-- `EA` NOP, Implied (R277). -/
def execNop (s : State) : Host.Outcome State Fault Refusal :=
  .next (s.charge (Config.baseCycles 0xEA))

end Sys2Proof.Machine
end

