-- ==== Sys2Proof/Machine/IncShiftLogic.lean ====
section
/-! DEFINITION. Increments, decrements, shifts, rotates, logic and BIT (spec 44_incdec_shift_logic R220 to R234): one meaning per row of the opcode table, on a machine
whose `PC` is past the instruction; each charges its `CYCLES` entry (R8). -/

namespace Sys2Proof.Machine

/-- `E6` INC, ZeroPage (R221). -/
def execIncZp (z : Byte) (s : State) : Host.Outcome State Fault Refusal :=
  .next (modifyAt incByte (.zeroPage z) (Config.baseCycles 0xE6) useSetZN s)

/-- `EE` INC, Absolute (R221). -/
def execIncAbs (w : Word) (s : State) : Host.Outcome State Fault Refusal :=
  .next (modifyAt incByte (.absolute w) (Config.baseCycles 0xEE) useSetZN s)

/-- `F6` INC, ZeroPageX (R221). -/
def execIncZpx (z : Byte) (s : State) : Host.Outcome State Fault Refusal :=
  .next (modifyAt incByte (.zeroPageX z) (Config.baseCycles 0xF6) useSetZN s)

/-- `FE` INC, AbsoluteX (R221). -/
def execIncAbx (w : Word) (s : State) : Host.Outcome State Fault Refusal :=
  .next (modifyAt incByte (.absoluteX w) (Config.baseCycles 0xFE) useSetZN s)

/-- `C6` DEC, ZeroPage (R222). -/
def execDecZp (z : Byte) (s : State) : Host.Outcome State Fault Refusal :=
  .next (modifyAt decByte (.zeroPage z) (Config.baseCycles 0xC6) useSetZN s)

/-- `CE` DEC, Absolute (R222). -/
def execDecAbs (w : Word) (s : State) : Host.Outcome State Fault Refusal :=
  .next (modifyAt decByte (.absolute w) (Config.baseCycles 0xCE) useSetZN s)

/-- `D6` DEC, ZeroPageX (R222). -/
def execDecZpx (z : Byte) (s : State) : Host.Outcome State Fault Refusal :=
  .next (modifyAt decByte (.zeroPageX z) (Config.baseCycles 0xD6) useSetZN s)

/-- `DE` DEC, AbsoluteX (R222). -/
def execDecAbx (w : Word) (s : State) : Host.Outcome State Fault Refusal :=
  .next (modifyAt decByte (.absoluteX w) (Config.baseCycles 0xDE) useSetZN s)

/-- `E8` INX, Implied (R223). -/
def execInx (s : State) : Host.Outcome State Fault Refusal :=
  .next ((useLoadX (s.x + 1) s).charge (Config.baseCycles 0xE8))

/-- `C8` INY, Implied (R224). -/
def execIny (s : State) : Host.Outcome State Fault Refusal :=
  .next ((useLoadY (s.y + 1) s).charge (Config.baseCycles 0xC8))

/-- `CA` DEX, Implied (R225). -/
def execDex (s : State) : Host.Outcome State Fault Refusal :=
  .next ((useLoadX (s.x - 1) s).charge (Config.baseCycles 0xCA))

/-- `88` DEY, Implied (R226). -/
def execDey (s : State) : Host.Outcome State Fault Refusal :=
  .next ((useLoadY (s.y - 1) s).charge (Config.baseCycles 0x88))

/-- `06` ASL, ZeroPage (R227). -/
def execAslZp (z : Byte) (s : State) : Host.Outcome State Fault Refusal :=
  .next (modifyAt aslByte (.zeroPage z) (Config.baseCycles 0x06) useSetZN s)

/-- `0A` ASL, Accumulator (R227). -/
def execAslAcc (s : State) : Host.Outcome State Fault Refusal :=
  .next (modifyA aslByte (Config.baseCycles 0x0A) s)

/-- `0E` ASL, Absolute (R227). -/
def execAslAbs (w : Word) (s : State) : Host.Outcome State Fault Refusal :=
  .next (modifyAt aslByte (.absolute w) (Config.baseCycles 0x0E) useSetZN s)

/-- `16` ASL, ZeroPageX (R227). -/
def execAslZpx (z : Byte) (s : State) : Host.Outcome State Fault Refusal :=
  .next (modifyAt aslByte (.zeroPageX z) (Config.baseCycles 0x16) useSetZN s)

/-- `1E` ASL, AbsoluteX (R227). -/
def execAslAbx (w : Word) (s : State) : Host.Outcome State Fault Refusal :=
  .next (modifyAt aslByte (.absoluteX w) (Config.baseCycles 0x1E) useSetZN s)

/-- `46` LSR, ZeroPage (R228). -/
def execLsrZp (z : Byte) (s : State) : Host.Outcome State Fault Refusal :=
  .next (modifyAt lsrByte (.zeroPage z) (Config.baseCycles 0x46) useSetZN s)

/-- `4A` LSR, Accumulator (R228). -/
def execLsrAcc (s : State) : Host.Outcome State Fault Refusal :=
  .next (modifyA lsrByte (Config.baseCycles 0x4A) s)

/-- `4E` LSR, Absolute (R228). -/
def execLsrAbs (w : Word) (s : State) : Host.Outcome State Fault Refusal :=
  .next (modifyAt lsrByte (.absolute w) (Config.baseCycles 0x4E) useSetZN s)

/-- `56` LSR, ZeroPageX (R228). -/
def execLsrZpx (z : Byte) (s : State) : Host.Outcome State Fault Refusal :=
  .next (modifyAt lsrByte (.zeroPageX z) (Config.baseCycles 0x56) useSetZN s)

/-- `5E` LSR, AbsoluteX (R228). -/
def execLsrAbx (w : Word) (s : State) : Host.Outcome State Fault Refusal :=
  .next (modifyAt lsrByte (.absoluteX w) (Config.baseCycles 0x5E) useSetZN s)

/-- `26` ROL, ZeroPage (R229). -/
def execRolZp (z : Byte) (s : State) : Host.Outcome State Fault Refusal :=
  .next (modifyAt rolByte (.zeroPage z) (Config.baseCycles 0x26) useSetZN s)

/-- `2A` ROL, Accumulator (R229). -/
def execRolAcc (s : State) : Host.Outcome State Fault Refusal :=
  .next (modifyA rolByte (Config.baseCycles 0x2A) s)

/-- `2E` ROL, Absolute (R229). -/
def execRolAbs (w : Word) (s : State) : Host.Outcome State Fault Refusal :=
  .next (modifyAt rolByte (.absolute w) (Config.baseCycles 0x2E) useSetZN s)

/-- `36` ROL, ZeroPageX (R229). -/
def execRolZpx (z : Byte) (s : State) : Host.Outcome State Fault Refusal :=
  .next (modifyAt rolByte (.zeroPageX z) (Config.baseCycles 0x36) useSetZN s)

/-- `3E` ROL, AbsoluteX (R229). -/
def execRolAbx (w : Word) (s : State) : Host.Outcome State Fault Refusal :=
  .next (modifyAt rolByte (.absoluteX w) (Config.baseCycles 0x3E) useSetZN s)

/-- `66` ROR, ZeroPage (R230). -/
def execRorZp (z : Byte) (s : State) : Host.Outcome State Fault Refusal :=
  .next (modifyAt rorByte (.zeroPage z) (Config.baseCycles 0x66) useSetZN s)

/-- `6A` ROR, Accumulator (R230). -/
def execRorAcc (s : State) : Host.Outcome State Fault Refusal :=
  .next (modifyA rorByte (Config.baseCycles 0x6A) s)

/-- `6E` ROR, Absolute (R230). -/
def execRorAbs (w : Word) (s : State) : Host.Outcome State Fault Refusal :=
  .next (modifyAt rorByte (.absolute w) (Config.baseCycles 0x6E) useSetZN s)

/-- `76` ROR, ZeroPageX (R230). -/
def execRorZpx (z : Byte) (s : State) : Host.Outcome State Fault Refusal :=
  .next (modifyAt rorByte (.zeroPageX z) (Config.baseCycles 0x76) useSetZN s)

/-- `7E` ROR, AbsoluteX (R230). -/
def execRorAbx (w : Word) (s : State) : Host.Outcome State Fault Refusal :=
  .next (modifyAt rorByte (.absoluteX w) (Config.baseCycles 0x7E) useSetZN s)

/-- `21` AND, PreIndexedIndirect (R231). -/
def execAndIzx (z : Byte) (s : State) : Host.Outcome State Fault Refusal :=
  .next (withOperand (.mem (.preIndexedIndirect z)) (Config.baseCycles 0x21) useAnd s)

/-- `25` AND, ZeroPage (R231). -/
def execAndZp (z : Byte) (s : State) : Host.Outcome State Fault Refusal :=
  .next (withOperand (.mem (.zeroPage z)) (Config.baseCycles 0x25) useAnd s)

/-- `29` AND, Immediate (R231). -/
def execAndImm (v : Byte) (s : State) : Host.Outcome State Fault Refusal :=
  .next (withOperand (.imm v) (Config.baseCycles 0x29) useAnd s)

/-- `2D` AND, Absolute (R231). -/
def execAndAbs (w : Word) (s : State) : Host.Outcome State Fault Refusal :=
  .next (withOperand (.mem (.absolute w)) (Config.baseCycles 0x2D) useAnd s)

/-- `31` AND, PostIndexedIndirect (R231). -/
def execAndIzy (z : Byte) (s : State) : Host.Outcome State Fault Refusal :=
  .next (withOperand (.mem (.postIndexedIndirect z)) (Config.baseCycles 0x31) useAnd s)

/-- `35` AND, ZeroPageX (R231). -/
def execAndZpx (z : Byte) (s : State) : Host.Outcome State Fault Refusal :=
  .next (withOperand (.mem (.zeroPageX z)) (Config.baseCycles 0x35) useAnd s)

/-- `39` AND, AbsoluteY (R231). -/
def execAndAby (w : Word) (s : State) : Host.Outcome State Fault Refusal :=
  .next (withOperand (.mem (.absoluteY w)) (Config.baseCycles 0x39) useAnd s)

/-- `3D` AND, AbsoluteX (R231). -/
def execAndAbx (w : Word) (s : State) : Host.Outcome State Fault Refusal :=
  .next (withOperand (.mem (.absoluteX w)) (Config.baseCycles 0x3D) useAnd s)

/-- `01` ORA, PreIndexedIndirect (R232). -/
def execOraIzx (z : Byte) (s : State) : Host.Outcome State Fault Refusal :=
  .next (withOperand (.mem (.preIndexedIndirect z)) (Config.baseCycles 0x01) useOr s)

/-- `05` ORA, ZeroPage (R232). -/
def execOraZp (z : Byte) (s : State) : Host.Outcome State Fault Refusal :=
  .next (withOperand (.mem (.zeroPage z)) (Config.baseCycles 0x05) useOr s)

/-- `09` ORA, Immediate (R232). -/
def execOraImm (v : Byte) (s : State) : Host.Outcome State Fault Refusal :=
  .next (withOperand (.imm v) (Config.baseCycles 0x09) useOr s)

/-- `0D` ORA, Absolute (R232). -/
def execOraAbs (w : Word) (s : State) : Host.Outcome State Fault Refusal :=
  .next (withOperand (.mem (.absolute w)) (Config.baseCycles 0x0D) useOr s)

/-- `11` ORA, PostIndexedIndirect (R232). -/
def execOraIzy (z : Byte) (s : State) : Host.Outcome State Fault Refusal :=
  .next (withOperand (.mem (.postIndexedIndirect z)) (Config.baseCycles 0x11) useOr s)

/-- `15` ORA, ZeroPageX (R232). -/
def execOraZpx (z : Byte) (s : State) : Host.Outcome State Fault Refusal :=
  .next (withOperand (.mem (.zeroPageX z)) (Config.baseCycles 0x15) useOr s)

/-- `19` ORA, AbsoluteY (R232). -/
def execOraAby (w : Word) (s : State) : Host.Outcome State Fault Refusal :=
  .next (withOperand (.mem (.absoluteY w)) (Config.baseCycles 0x19) useOr s)

/-- `1D` ORA, AbsoluteX (R232). -/
def execOraAbx (w : Word) (s : State) : Host.Outcome State Fault Refusal :=
  .next (withOperand (.mem (.absoluteX w)) (Config.baseCycles 0x1D) useOr s)

/-- `41` EOR, PreIndexedIndirect (R233). -/
def execEorIzx (z : Byte) (s : State) : Host.Outcome State Fault Refusal :=
  .next (withOperand (.mem (.preIndexedIndirect z)) (Config.baseCycles 0x41) useXor s)

/-- `45` EOR, ZeroPage (R233). -/
def execEorZp (z : Byte) (s : State) : Host.Outcome State Fault Refusal :=
  .next (withOperand (.mem (.zeroPage z)) (Config.baseCycles 0x45) useXor s)

/-- `49` EOR, Immediate (R233). -/
def execEorImm (v : Byte) (s : State) : Host.Outcome State Fault Refusal :=
  .next (withOperand (.imm v) (Config.baseCycles 0x49) useXor s)

/-- `4D` EOR, Absolute (R233). -/
def execEorAbs (w : Word) (s : State) : Host.Outcome State Fault Refusal :=
  .next (withOperand (.mem (.absolute w)) (Config.baseCycles 0x4D) useXor s)

/-- `51` EOR, PostIndexedIndirect (R233). -/
def execEorIzy (z : Byte) (s : State) : Host.Outcome State Fault Refusal :=
  .next (withOperand (.mem (.postIndexedIndirect z)) (Config.baseCycles 0x51) useXor s)

/-- `55` EOR, ZeroPageX (R233). -/
def execEorZpx (z : Byte) (s : State) : Host.Outcome State Fault Refusal :=
  .next (withOperand (.mem (.zeroPageX z)) (Config.baseCycles 0x55) useXor s)

/-- `59` EOR, AbsoluteY (R233). -/
def execEorAby (w : Word) (s : State) : Host.Outcome State Fault Refusal :=
  .next (withOperand (.mem (.absoluteY w)) (Config.baseCycles 0x59) useXor s)

/-- `5D` EOR, AbsoluteX (R233). -/
def execEorAbx (w : Word) (s : State) : Host.Outcome State Fault Refusal :=
  .next (withOperand (.mem (.absoluteX w)) (Config.baseCycles 0x5D) useXor s)

/-- `24` BIT, ZeroPage (R234). -/
def execBitZp (z : Byte) (s : State) : Host.Outcome State Fault Refusal :=
  .next (withOperand (.mem (.zeroPage z)) (Config.baseCycles 0x24) useBitTest s)

/-- `2C` BIT, Absolute (R234). -/
def execBitAbs (w : Word) (s : State) : Host.Outcome State Fault Refusal :=
  .next (withOperand (.mem (.absolute w)) (Config.baseCycles 0x2C) useBitTest s)

end Sys2Proof.Machine
end

