-- ==== Sys2Proof/Machine/LoadStore.lean ====
section
/-! DEFINITION. Loads, stores and register transfers (spec 41_load_store_transfer R170 to R182): one meaning per row of the opcode table, on a machine
whose `PC` is past the instruction; each charges its `CYCLES` entry (R8). -/

namespace Sys2Proof.Machine

/-- `A1` LDA, PreIndexedIndirect (R171). -/
def execLdaIzx (z : Byte) (s : State) : Host.Outcome State Fault Refusal :=
  .next (withOperand (.mem (.preIndexedIndirect z)) (Config.baseCycles 0xA1) useLoadA s)

/-- `A5` LDA, ZeroPage (R171). -/
def execLdaZp (z : Byte) (s : State) : Host.Outcome State Fault Refusal :=
  .next (withOperand (.mem (.zeroPage z)) (Config.baseCycles 0xA5) useLoadA s)

/-- `A9` LDA, Immediate (R171). -/
def execLdaImm (v : Byte) (s : State) : Host.Outcome State Fault Refusal :=
  .next (withOperand (.imm v) (Config.baseCycles 0xA9) useLoadA s)

/-- `AD` LDA, Absolute (R171). -/
def execLdaAbs (w : Word) (s : State) : Host.Outcome State Fault Refusal :=
  .next (withOperand (.mem (.absolute w)) (Config.baseCycles 0xAD) useLoadA s)

/-- `B1` LDA, PostIndexedIndirect (R171). -/
def execLdaIzy (z : Byte) (s : State) : Host.Outcome State Fault Refusal :=
  .next (withOperand (.mem (.postIndexedIndirect z)) (Config.baseCycles 0xB1) useLoadA s)

/-- `B5` LDA, ZeroPageX (R171). -/
def execLdaZpx (z : Byte) (s : State) : Host.Outcome State Fault Refusal :=
  .next (withOperand (.mem (.zeroPageX z)) (Config.baseCycles 0xB5) useLoadA s)

/-- `B9` LDA, AbsoluteY (R171). -/
def execLdaAby (w : Word) (s : State) : Host.Outcome State Fault Refusal :=
  .next (withOperand (.mem (.absoluteY w)) (Config.baseCycles 0xB9) useLoadA s)

/-- `BD` LDA, AbsoluteX (R171). -/
def execLdaAbx (w : Word) (s : State) : Host.Outcome State Fault Refusal :=
  .next (withOperand (.mem (.absoluteX w)) (Config.baseCycles 0xBD) useLoadA s)

/-- `A2` LDX, Immediate (R172). -/
def execLdxImm (v : Byte) (s : State) : Host.Outcome State Fault Refusal :=
  .next (withOperand (.imm v) (Config.baseCycles 0xA2) useLoadX s)

/-- `A6` LDX, ZeroPage (R172). -/
def execLdxZp (z : Byte) (s : State) : Host.Outcome State Fault Refusal :=
  .next (withOperand (.mem (.zeroPage z)) (Config.baseCycles 0xA6) useLoadX s)

/-- `AE` LDX, Absolute (R172). -/
def execLdxAbs (w : Word) (s : State) : Host.Outcome State Fault Refusal :=
  .next (withOperand (.mem (.absolute w)) (Config.baseCycles 0xAE) useLoadX s)

/-- `B6` LDX, ZeroPageY (R172). -/
def execLdxZpy (z : Byte) (s : State) : Host.Outcome State Fault Refusal :=
  .next (withOperand (.mem (.zeroPageY z)) (Config.baseCycles 0xB6) useLoadX s)

/-- `BE` LDX, AbsoluteY (R172). -/
def execLdxAby (w : Word) (s : State) : Host.Outcome State Fault Refusal :=
  .next (withOperand (.mem (.absoluteY w)) (Config.baseCycles 0xBE) useLoadX s)

/-- `A0` LDY, Immediate (R173). -/
def execLdyImm (v : Byte) (s : State) : Host.Outcome State Fault Refusal :=
  .next (withOperand (.imm v) (Config.baseCycles 0xA0) useLoadY s)

/-- `A4` LDY, ZeroPage (R173). -/
def execLdyZp (z : Byte) (s : State) : Host.Outcome State Fault Refusal :=
  .next (withOperand (.mem (.zeroPage z)) (Config.baseCycles 0xA4) useLoadY s)

/-- `AC` LDY, Absolute (R173). -/
def execLdyAbs (w : Word) (s : State) : Host.Outcome State Fault Refusal :=
  .next (withOperand (.mem (.absolute w)) (Config.baseCycles 0xAC) useLoadY s)

/-- `B4` LDY, ZeroPageX (R173). -/
def execLdyZpx (z : Byte) (s : State) : Host.Outcome State Fault Refusal :=
  .next (withOperand (.mem (.zeroPageX z)) (Config.baseCycles 0xB4) useLoadY s)

/-- `BC` LDY, AbsoluteX (R173). -/
def execLdyAbx (w : Word) (s : State) : Host.Outcome State Fault Refusal :=
  .next (withOperand (.mem (.absoluteX w)) (Config.baseCycles 0xBC) useLoadY s)

/-- `81` STA, PreIndexedIndirect (R174). -/
def execStaIzx (z : Byte) (s : State) : Host.Outcome State Fault Refusal :=
  .next (storeAt (.preIndexedIndirect z) (Config.baseCycles 0x81) State.a s)

/-- `85` STA, ZeroPage (R174). -/
def execStaZp (z : Byte) (s : State) : Host.Outcome State Fault Refusal :=
  .next (storeAt (.zeroPage z) (Config.baseCycles 0x85) State.a s)

/-- `8D` STA, Absolute (R174). -/
def execStaAbs (w : Word) (s : State) : Host.Outcome State Fault Refusal :=
  .next (storeAt (.absolute w) (Config.baseCycles 0x8D) State.a s)

/-- `91` STA, PostIndexedIndirect (R174). -/
def execStaIzy (z : Byte) (s : State) : Host.Outcome State Fault Refusal :=
  .next (storeAt (.postIndexedIndirect z) (Config.baseCycles 0x91) State.a s)

/-- `95` STA, ZeroPageX (R174). -/
def execStaZpx (z : Byte) (s : State) : Host.Outcome State Fault Refusal :=
  .next (storeAt (.zeroPageX z) (Config.baseCycles 0x95) State.a s)

/-- `99` STA, AbsoluteY (R174). -/
def execStaAby (w : Word) (s : State) : Host.Outcome State Fault Refusal :=
  .next (storeAt (.absoluteY w) (Config.baseCycles 0x99) State.a s)

/-- `9D` STA, AbsoluteX (R174). -/
def execStaAbx (w : Word) (s : State) : Host.Outcome State Fault Refusal :=
  .next (storeAt (.absoluteX w) (Config.baseCycles 0x9D) State.a s)

/-- `86` STX, ZeroPage (R175). -/
def execStxZp (z : Byte) (s : State) : Host.Outcome State Fault Refusal :=
  .next (storeAt (.zeroPage z) (Config.baseCycles 0x86) State.x s)

/-- `8E` STX, Absolute (R175). -/
def execStxAbs (w : Word) (s : State) : Host.Outcome State Fault Refusal :=
  .next (storeAt (.absolute w) (Config.baseCycles 0x8E) State.x s)

/-- `96` STX, ZeroPageY (R175). -/
def execStxZpy (z : Byte) (s : State) : Host.Outcome State Fault Refusal :=
  .next (storeAt (.zeroPageY z) (Config.baseCycles 0x96) State.x s)

/-- `84` STY, ZeroPage (R176). -/
def execStyZp (z : Byte) (s : State) : Host.Outcome State Fault Refusal :=
  .next (storeAt (.zeroPage z) (Config.baseCycles 0x84) State.y s)

/-- `8C` STY, Absolute (R176). -/
def execStyAbs (w : Word) (s : State) : Host.Outcome State Fault Refusal :=
  .next (storeAt (.absolute w) (Config.baseCycles 0x8C) State.y s)

/-- `94` STY, ZeroPageX (R176). -/
def execStyZpx (z : Byte) (s : State) : Host.Outcome State Fault Refusal :=
  .next (storeAt (.zeroPageX z) (Config.baseCycles 0x94) State.y s)

/-- `AA` TAX, Implied (R177). -/
def execTax (s : State) : Host.Outcome State Fault Refusal :=
  .next ((useLoadX s.a s).charge (Config.baseCycles 0xAA))

/-- `8A` TXA, Implied (R178). -/
def execTxa (s : State) : Host.Outcome State Fault Refusal :=
  .next ((useLoadA s.x s).charge (Config.baseCycles 0x8A))

/-- `A8` TAY, Implied (R179). -/
def execTay (s : State) : Host.Outcome State Fault Refusal :=
  .next ((useLoadY s.a s).charge (Config.baseCycles 0xA8))

/-- `98` TYA, Implied (R180). -/
def execTya (s : State) : Host.Outcome State Fault Refusal :=
  .next ((useLoadA s.y s).charge (Config.baseCycles 0x98))

/-- `BA` TSX, Implied (R181). -/
def execTsx (s : State) : Host.Outcome State Fault Refusal :=
  .next ((useLoadX s.sp s).charge (Config.baseCycles 0xBA))

/-- `9A` TXS, Implied (R182). -/
def execTxs (s : State) : Host.Outcome State Fault Refusal :=
  .next ((s.setSp s.x).charge (Config.baseCycles 0x9A))

end Sys2Proof.Machine
end

