-- ==== Sys2Proof/Machine/Stack.lean ====
section
/-! DEFINITION. The stack instructions (spec 42_stack R190 to R195): one meaning per row of the opcode table, on a machine
whose `PC` is past the instruction; each charges its `CYCLES` entry (R8). -/

namespace Sys2Proof.Machine

/-- `A <- Pop(); SetZN(A)` (R192). -/
def pullA (s : State) : State :=
  let v := pop s
  useLoadA v.1 v.2

/-- `B <- true; Push(GetP())` (R193, D33). -/
def pushStatus (s : State) : State :=
  let t := s.setFlags { s.flags with b := true }
  push (getP t.flags) t

/-- `SetP(Pop())` (R194). -/
def pullStatus (s : State) : State :=
  let p := pop s
  p.2.setFlags (setP p.1)

/-- `48` PHA, Implied (R191). -/
def execPha (s : State) : Host.Outcome State Fault Refusal :=
  .next ((push s.a s).charge (Config.baseCycles 0x48))

/-- `68` PLA, Implied (R192). -/
def execPla (s : State) : Host.Outcome State Fault Refusal :=
  .next ((pullA s).charge (Config.baseCycles 0x68))

/-- `08` PHP, Implied (R193). -/
def execPhp (s : State) : Host.Outcome State Fault Refusal :=
  .next ((pushStatus s).charge (Config.baseCycles 0x08))

/-- `28` PLP, Implied (R194). -/
def execPlp (s : State) : Host.Outcome State Fault Refusal :=
  .next ((pullStatus s).charge (Config.baseCycles 0x28))

end Sys2Proof.Machine
end

