-- ==== Sys2Proof/Machine/Undocumented.lean ====
section
/-! DEFINITION. The undocumented instructions (spec 46_undocumented R290 to R298): one meaning per row of the opcode table, on a machine
whose `PC` is past the instruction; each charges its `CYCLES` entry (R8). -/

namespace Sys2Proof.Machine

/-- `A3` LAX, PreIndexedIndirect (R291). -/
def execLaxIzx (z : Byte) (s : State) : Host.Outcome State Fault Refusal :=
  .next (withOperand (.mem (.preIndexedIndirect z)) (Config.baseCycles 0xA3) useLoadAX s)

/-- `A7` LAX, ZeroPage (R291). -/
def execLaxZp (z : Byte) (s : State) : Host.Outcome State Fault Refusal :=
  .next (withOperand (.mem (.zeroPage z)) (Config.baseCycles 0xA7) useLoadAX s)

/-- `AF` LAX, Absolute (R291). -/
def execLaxAbs (w : Word) (s : State) : Host.Outcome State Fault Refusal :=
  .next (withOperand (.mem (.absolute w)) (Config.baseCycles 0xAF) useLoadAX s)

/-- `B3` LAX, PostIndexedIndirect (R291). -/
def execLaxIzy (z : Byte) (s : State) : Host.Outcome State Fault Refusal :=
  .next (withOperand (.mem (.postIndexedIndirect z)) (Config.baseCycles 0xB3) useLoadAX s)

/-- `B7` LAX, ZeroPageY (R291). -/
def execLaxZpy (z : Byte) (s : State) : Host.Outcome State Fault Refusal :=
  .next (withOperand (.mem (.zeroPageY z)) (Config.baseCycles 0xB7) useLoadAX s)

/-- `BF` LAX, AbsoluteY (R291). -/
def execLaxAby (w : Word) (s : State) : Host.Outcome State Fault Refusal :=
  .next (withOperand (.mem (.absoluteY w)) (Config.baseCycles 0xBF) useLoadAX s)

/-- `83` SAX, PreIndexedIndirect (R292). -/
def execSaxIzx (z : Byte) (s : State) : Host.Outcome State Fault Refusal :=
  .next (storeAt (.preIndexedIndirect z) (Config.baseCycles 0x83) (fun t => t.a &&& t.x) s)

/-- `87` SAX, ZeroPage (R292). -/
def execSaxZp (z : Byte) (s : State) : Host.Outcome State Fault Refusal :=
  .next (storeAt (.zeroPage z) (Config.baseCycles 0x87) (fun t => t.a &&& t.x) s)

/-- `8F` SAX, Absolute (R292). -/
def execSaxAbs (w : Word) (s : State) : Host.Outcome State Fault Refusal :=
  .next (storeAt (.absolute w) (Config.baseCycles 0x8F) (fun t => t.a &&& t.x) s)

/-- `97` SAX, ZeroPageY (R292). -/
def execSaxZpy (z : Byte) (s : State) : Host.Outcome State Fault Refusal :=
  .next (storeAt (.zeroPageY z) (Config.baseCycles 0x97) (fun t => t.a &&& t.x) s)

/-- `C3` DCP, PreIndexedIndirect (R293). -/
def execDcpIzx (z : Byte) (s : State) : Host.Outcome State Fault Refusal :=
  .next (modifyAt decByte (.preIndexedIndirect z) (Config.baseCycles 0xC3) useCompareA s)

/-- `C7` DCP, ZeroPage (R293). -/
def execDcpZp (z : Byte) (s : State) : Host.Outcome State Fault Refusal :=
  .next (modifyAt decByte (.zeroPage z) (Config.baseCycles 0xC7) useCompareA s)

/-- `CF` DCP, Absolute (R293). -/
def execDcpAbs (w : Word) (s : State) : Host.Outcome State Fault Refusal :=
  .next (modifyAt decByte (.absolute w) (Config.baseCycles 0xCF) useCompareA s)

/-- `D3` DCP, PostIndexedIndirect (R293). -/
def execDcpIzy (z : Byte) (s : State) : Host.Outcome State Fault Refusal :=
  .next (modifyAt decByte (.postIndexedIndirect z) (Config.baseCycles 0xD3) useCompareA s)

/-- `D7` DCP, ZeroPageX (R293). -/
def execDcpZpx (z : Byte) (s : State) : Host.Outcome State Fault Refusal :=
  .next (modifyAt decByte (.zeroPageX z) (Config.baseCycles 0xD7) useCompareA s)

/-- `DB` DCP, AbsoluteY (R293). -/
def execDcpAby (w : Word) (s : State) : Host.Outcome State Fault Refusal :=
  .next (modifyAt decByte (.absoluteY w) (Config.baseCycles 0xDB) useCompareA s)

/-- `DF` DCP, AbsoluteX (R293). -/
def execDcpAbx (w : Word) (s : State) : Host.Outcome State Fault Refusal :=
  .next (modifyAt decByte (.absoluteX w) (Config.baseCycles 0xDF) useCompareA s)

/-- `E3` ISB, PreIndexedIndirect (R294). -/
def execIsbIzx (z : Byte) (s : State) : Host.Outcome State Fault Refusal :=
  .next (modifyAt incByte (.preIndexedIndirect z) (Config.baseCycles 0xE3) useSubtract s)

/-- `E7` ISB, ZeroPage (R294). -/
def execIsbZp (z : Byte) (s : State) : Host.Outcome State Fault Refusal :=
  .next (modifyAt incByte (.zeroPage z) (Config.baseCycles 0xE7) useSubtract s)

/-- `EF` ISB, Absolute (R294). -/
def execIsbAbs (w : Word) (s : State) : Host.Outcome State Fault Refusal :=
  .next (modifyAt incByte (.absolute w) (Config.baseCycles 0xEF) useSubtract s)

/-- `F3` ISB, PostIndexedIndirect (R294). -/
def execIsbIzy (z : Byte) (s : State) : Host.Outcome State Fault Refusal :=
  .next (modifyAt incByte (.postIndexedIndirect z) (Config.baseCycles 0xF3) useSubtract s)

/-- `F7` ISB, ZeroPageX (R294). -/
def execIsbZpx (z : Byte) (s : State) : Host.Outcome State Fault Refusal :=
  .next (modifyAt incByte (.zeroPageX z) (Config.baseCycles 0xF7) useSubtract s)

/-- `FB` ISB, AbsoluteY (R294). -/
def execIsbAby (w : Word) (s : State) : Host.Outcome State Fault Refusal :=
  .next (modifyAt incByte (.absoluteY w) (Config.baseCycles 0xFB) useSubtract s)

/-- `FF` ISB, AbsoluteX (R294). -/
def execIsbAbx (w : Word) (s : State) : Host.Outcome State Fault Refusal :=
  .next (modifyAt incByte (.absoluteX w) (Config.baseCycles 0xFF) useSubtract s)

/-- `03` SLO, PreIndexedIndirect (R295). -/
def execSloIzx (z : Byte) (s : State) : Host.Outcome State Fault Refusal :=
  .next (modifyAt aslByte (.preIndexedIndirect z) (Config.baseCycles 0x03) useOr s)

/-- `07` SLO, ZeroPage (R295). -/
def execSloZp (z : Byte) (s : State) : Host.Outcome State Fault Refusal :=
  .next (modifyAt aslByte (.zeroPage z) (Config.baseCycles 0x07) useOr s)

/-- `0F` SLO, Absolute (R295). -/
def execSloAbs (w : Word) (s : State) : Host.Outcome State Fault Refusal :=
  .next (modifyAt aslByte (.absolute w) (Config.baseCycles 0x0F) useOr s)

/-- `13` SLO, PostIndexedIndirect (R295). -/
def execSloIzy (z : Byte) (s : State) : Host.Outcome State Fault Refusal :=
  .next (modifyAt aslByte (.postIndexedIndirect z) (Config.baseCycles 0x13) useOr s)

/-- `17` SLO, ZeroPageX (R295). -/
def execSloZpx (z : Byte) (s : State) : Host.Outcome State Fault Refusal :=
  .next (modifyAt aslByte (.zeroPageX z) (Config.baseCycles 0x17) useOr s)

/-- `1B` SLO, AbsoluteY (R295). -/
def execSloAby (w : Word) (s : State) : Host.Outcome State Fault Refusal :=
  .next (modifyAt aslByte (.absoluteY w) (Config.baseCycles 0x1B) useOr s)

/-- `1F` SLO, AbsoluteX (R295). -/
def execSloAbx (w : Word) (s : State) : Host.Outcome State Fault Refusal :=
  .next (modifyAt aslByte (.absoluteX w) (Config.baseCycles 0x1F) useOr s)

/-- `23` RLA, PreIndexedIndirect (R296). -/
def execRlaIzx (z : Byte) (s : State) : Host.Outcome State Fault Refusal :=
  .next (modifyAt rolByte (.preIndexedIndirect z) (Config.baseCycles 0x23) useAnd s)

/-- `27` RLA, ZeroPage (R296). -/
def execRlaZp (z : Byte) (s : State) : Host.Outcome State Fault Refusal :=
  .next (modifyAt rolByte (.zeroPage z) (Config.baseCycles 0x27) useAnd s)

/-- `2F` RLA, Absolute (R296). -/
def execRlaAbs (w : Word) (s : State) : Host.Outcome State Fault Refusal :=
  .next (modifyAt rolByte (.absolute w) (Config.baseCycles 0x2F) useAnd s)

/-- `33` RLA, PostIndexedIndirect (R296). -/
def execRlaIzy (z : Byte) (s : State) : Host.Outcome State Fault Refusal :=
  .next (modifyAt rolByte (.postIndexedIndirect z) (Config.baseCycles 0x33) useAnd s)

/-- `37` RLA, ZeroPageX (R296). -/
def execRlaZpx (z : Byte) (s : State) : Host.Outcome State Fault Refusal :=
  .next (modifyAt rolByte (.zeroPageX z) (Config.baseCycles 0x37) useAnd s)

/-- `3B` RLA, AbsoluteY (R296). -/
def execRlaAby (w : Word) (s : State) : Host.Outcome State Fault Refusal :=
  .next (modifyAt rolByte (.absoluteY w) (Config.baseCycles 0x3B) useAnd s)

/-- `3F` RLA, AbsoluteX (R296). -/
def execRlaAbx (w : Word) (s : State) : Host.Outcome State Fault Refusal :=
  .next (modifyAt rolByte (.absoluteX w) (Config.baseCycles 0x3F) useAnd s)

/-- `43` SRE, PreIndexedIndirect (R297). -/
def execSreIzx (z : Byte) (s : State) : Host.Outcome State Fault Refusal :=
  .next (modifyAt lsrByte (.preIndexedIndirect z) (Config.baseCycles 0x43) useXor s)

/-- `47` SRE, ZeroPage (R297). -/
def execSreZp (z : Byte) (s : State) : Host.Outcome State Fault Refusal :=
  .next (modifyAt lsrByte (.zeroPage z) (Config.baseCycles 0x47) useXor s)

/-- `4F` SRE, Absolute (R297). -/
def execSreAbs (w : Word) (s : State) : Host.Outcome State Fault Refusal :=
  .next (modifyAt lsrByte (.absolute w) (Config.baseCycles 0x4F) useXor s)

/-- `53` SRE, PostIndexedIndirect (R297). -/
def execSreIzy (z : Byte) (s : State) : Host.Outcome State Fault Refusal :=
  .next (modifyAt lsrByte (.postIndexedIndirect z) (Config.baseCycles 0x53) useXor s)

/-- `57` SRE, ZeroPageX (R297). -/
def execSreZpx (z : Byte) (s : State) : Host.Outcome State Fault Refusal :=
  .next (modifyAt lsrByte (.zeroPageX z) (Config.baseCycles 0x57) useXor s)

/-- `5B` SRE, AbsoluteY (R297). -/
def execSreAby (w : Word) (s : State) : Host.Outcome State Fault Refusal :=
  .next (modifyAt lsrByte (.absoluteY w) (Config.baseCycles 0x5B) useXor s)

/-- `5F` SRE, AbsoluteX (R297). -/
def execSreAbx (w : Word) (s : State) : Host.Outcome State Fault Refusal :=
  .next (modifyAt lsrByte (.absoluteX w) (Config.baseCycles 0x5F) useXor s)

/-- `63` RRA, PreIndexedIndirect (R298). -/
def execRraIzx (z : Byte) (s : State) : Host.Outcome State Fault Refusal :=
  .next (modifyAt rorByte (.preIndexedIndirect z) (Config.baseCycles 0x63) useAdd s)

/-- `67` RRA, ZeroPage (R298). -/
def execRraZp (z : Byte) (s : State) : Host.Outcome State Fault Refusal :=
  .next (modifyAt rorByte (.zeroPage z) (Config.baseCycles 0x67) useAdd s)

/-- `6F` RRA, Absolute (R298). -/
def execRraAbs (w : Word) (s : State) : Host.Outcome State Fault Refusal :=
  .next (modifyAt rorByte (.absolute w) (Config.baseCycles 0x6F) useAdd s)

/-- `73` RRA, PostIndexedIndirect (R298). -/
def execRraIzy (z : Byte) (s : State) : Host.Outcome State Fault Refusal :=
  .next (modifyAt rorByte (.postIndexedIndirect z) (Config.baseCycles 0x73) useAdd s)

/-- `77` RRA, ZeroPageX (R298). -/
def execRraZpx (z : Byte) (s : State) : Host.Outcome State Fault Refusal :=
  .next (modifyAt rorByte (.zeroPageX z) (Config.baseCycles 0x77) useAdd s)

/-- `7B` RRA, AbsoluteY (R298). -/
def execRraAby (w : Word) (s : State) : Host.Outcome State Fault Refusal :=
  .next (modifyAt rorByte (.absoluteY w) (Config.baseCycles 0x7B) useAdd s)

/-- `7F` RRA, AbsoluteX (R298). -/
def execRraAbx (w : Word) (s : State) : Host.Outcome State Fault Refusal :=
  .next (modifyAt rorByte (.absoluteX w) (Config.baseCycles 0x7F) useAdd s)

end Sys2Proof.Machine
end

