-- ==== Sys2Proof/Machine/Dma.lean ====
section
/-! DEFINITION. The DMA cycle-interlock unit (spec 60_exceptions R360 to R363). It works on device indices, not through the
bus (R106). -/

namespace Sys2Proof.Machine

/-- The first `n` copies of the transfer, in order: `OAM[i] <- RAM[base + i]` (R360). -/
def copyToOam (ram : Memory) (base : Nat) : Nat → Memory → Memory
  | 0, oam => oam
  | n + 1, oam => (copyToOam ram base n oam).write n (ram.read (base + n))

/-- `page << 8` (R360). -/
def dmaBase (page : Byte) : Nat := page.toNat * 256

/-- `DmaTransfer(page)` (R360): all 256 bytes of `OAM` are replaced. -/
def dmaTransfer (page : Byte) (s : State) : State :=
  { s with oam := copyToOam s.ram (dmaBase page) Config.dmaLen s.oam }

/-- `DmaDrain()` (R362): the latch is cleared before the range test; the stall is charged after the copy. -/
def dmaDrain (s : State) : Progress :=
  if s.dmaLatch = 0x00 then .ok s
  else
    let cleared := { s with dmaLatch := 0x00 }
    if Config.ramSize ≤ dmaBase s.dmaLatch + 255 then
      .raised (.addressRangeViolation .workRam (dmaBase s.dmaLatch)) cleared
    else .ok ((dmaTransfer s.dmaLatch cleared).charge Config.dmaStall)

end Sys2Proof.Machine
end

