-- ==== Sys2Proof/Machine/Fetch.lean ====
section
/-! DEFINITION. Fetching an instruction's bytes (spec 30_encoding R121, R124, R132): through the bus, in ascending address
order, each byte once. -/

namespace Sys2Proof.Machine

/-- `Fetch()` (R14): the byte at `PC`, and `PC` one further. -/
def fetchByte (s : State) : Byte × State :=
  let b := busRead s.pc s
  (b.1, b.2.setPc (s.pc + 1))

/-- What the fetch at `PC` gives: an instruction with the machine past it, or the byte that has no table entry. -/
inductive Fetched where
  | instr (i : Instr) (s : State)
  | noEntry (opcode : Byte) (s : State)
  deriving DecidableEq, Repr

/-- The fetch part of `CpuStep()` (R121): the opcode byte, then 0, 1 or 2 operand bytes, low byte first. A byte without an
entry leaves `PC` where it was (R132, R311). -/
def fetchInstr (s : State) : Fetched :=
  let op := busRead s.pc s
  match decodeOpcode op.1 with
  | none => .noEntry op.1 op.2
  | some (.f1 i) => .instr i (op.2.setPc (s.pc + 1))
  | some (.f2 mk) =>
    let d := fetchByte (op.2.setPc (s.pc + 1))
    .instr (mk d.1) d.2
  | some (.f3 mk) =>
    let lo := fetchByte (op.2.setPc (s.pc + 1))
    let hi := fetchByte lo.2
    .instr (mk (wordOf hi.1 lo.1)) hi.2

end Sys2Proof.Machine
end

