-- ==== Sys2Proof/Machine/Ppu.lean ====
section
/-! DEFINITION. The PPU timing state machine (spec 60_exceptions R345 to R356), one PPU cycle at a time. -/

namespace Sys2Proof.Machine

/-- `PortLineEvent(port, e)` (R350, R351): it must not change `NmiEnable`, so that projection is kept. -/
def portLineEvent (e : LineEvent) (s : State) : State :=
  { s with port := { Config.portLineEvent s.port e with nmiEnable := s.port.nmiEnable } }

/-- The first part of a line boundary (R346, R348): leaving line 0 clears the background; the counters move on. -/
def enterLine (s : State) : State :=
  { s with
    background := if s.ppuLine = 0 then [] else s.background
    ppuCycle := 0
    ppuLine := s.ppuLine + 1 }

/-- The tile row of a line that is a multiple of 8 and at most 240 (R349). -/
def buildRow (s : State) : State :=
  if s.ppuLine ≤ Config.lastTileLine ∧ s.ppuLine % 8 = 0 then
    { s with
      background := s.background ++
        [Config.buildTileRow s.vram s.chrBuffer s.cart.mirrorH (Config.scroll s.port) (s.ppuLine / 8 - 1)] }
  else s

/-- Vertical blank and the NMI request at line 241 (R350, R332). -/
def beginVblank (s : State) : State :=
  if s.ppuLine = Config.vblankLine then
    portLineEvent .vblankBegin { s with vblank := true, nmiRequest := s.nmiRequest || s.port.nmiEnable }
  else s

/-- Frame completion at line 262 (R351, R352). -/
def endFrame (s : State) : State :=
  if s.ppuLine = Config.linesPerFrame then
    let done := { background := s.background, sprites := Config.buildSprites s.oam s.chrBuffer s.port : Frame }
    { portLineEvent .frameEnd { s with vblank := false } with
      ppuLine := 0
      frame := some done
      frameNo := s.frameNo + 1 }
  else s

/-- `LineBoundary()` (R346), in the spec's order. -/
def lineBoundary (s : State) : State := endFrame (beginVblank (buildRow (enterLine s)))

/-- `PpuTick()` (R345). A frame it completes is left in `frame`. -/
def ppuTick (s : State) : State :=
  if s.ppuCycle + 1 < Config.cyclesPerLine then { s with ppuCycle := s.ppuCycle + 1 } else lineBoundary s

/-- `PpuRun(n)` (R347): `n` ticks in sequence. -/
def ppuRun : Nat → State → State
  | 0, s => s
  | n + 1, s => ppuRun n (ppuTick s)

end Sys2Proof.Machine
end

