-- ==== Sys2Proof/Machine/Sequencer.lean ====
section
/-! DEFINITION. The control sequencer and the machine step (spec 30_encoding R120, R121; 60_exceptions R323, R331, R370,
R371; 70 R380). -/

namespace Sys2Proof.Machine

/-- The end of an instruction that was in `before` once fetched: only with `ROM_WRITE` `fatal` may it have recorded a fault,
which is then raised with none of its effects (log entry 20). -/
def endInstruction (before after : State) : Progress :=
  match Config.romWrite with
  | .ignore => .ok after
  | .fatal =>
    match after.fault with
    | none => .ok after
    | some f => .raised f before

/-- The CPU step of a machine that runs (R121): a pending NMI in place of a fetch, else one instruction. -/
def runCpu (s : State) : Progress :=
  if s.nmiRequest then .ok (nmiEntry s)
  else
    match fetchInstr s with
    | .noEntry op s' => .raised (.decodeFailure op s.pc) s'
    | .instr i s' =>
      match exec i s' with
      | .next t => endInstruction s' t
      | .fault f => .raised f s'
      | .refused r => .refused r

/-- `CpuStep()` (R121); like `MachineStep` and reset it requires that no fault is recorded (R312, U6, D52). -/
def cpuStep (s : State) : Progress :=
  match s.fault with
  | some _ => .refused .machineFaulted
  | none => runCpu s

/-- The head of a machine step (R370): the results of the last one are gone and the keypad latches `keys`. -/
def beginStep (keys : Byte) (s : State) : State :=
  { s with cycles := 0, frame := none, keypad := Config.keyLatch s.keypad keys }

/-- On a raise `fault` records it, no cost is returned and the PPU does not move (R312, R370). -/
def recordFault (f : Fault) (s : State) : State := { s with fault := some f, cycles := 0 }

/-- `MachineStep(keys)` (R370). The cost is left in `cycles` and a completed frame in `frame`. -/
def machineStep (keys : Byte) (s : State) : Progress :=
  match s.fault with
  | some _ => .refused .machineFaulted
  | none =>
    match dmaDrain (beginStep keys s) with
    | .raised f t => .raised f (recordFault f t)
    | .refused r => .refused r
    | .ok t =>
      match cpuStep t with
      | .raised f u => .raised f (recordFault f u)
      | .refused r => .refused r
      | .ok u => .ok (ppuRun (Config.ppuPerCpu * u.cycles) u)

/-- `RunFrame(keys)` (R371), for at most `fuel` machine steps: it stops at the step that completes a frame. -/
def runFrame (keys : Byte) : Nat → State → Progress
  | 0, s => .ok s
  | fuel + 1, s =>
    match machineStep keys s with
    | .ok t => if t.frame.isSome then .ok t else runFrame keys fuel t
    | .raised f t => .raised f t
    | .refused r => .refused r

/-- `Reset()` (R380, R381), the host's transition: the CPU registers only, `PC` from the vector; refused on a faulted
machine (D52). -/
def resetCpu (s : State) : Progress :=
  match s.fault with
  | some _ => .refused .machineFaulted
  | none =>
    let vector := readVector Config.resetVector
      { s with a := 0x00, x := 0x00, y := 0x00, sp := 0xFD, flags := Flags.canonical }
    .ok (vector.2.setPc vector.1)

/-- Power-on from a cartridge image (R9, R372, D14): refuses an image of another program ROM size. -/
def powerOnImage (image : CartImage) (ramInit vramInit oamInit : List Byte) : Progress :=
  let cart := fun size : PrgSize =>
    { prg := Memory.ofBytes image.prg
      prgSize := size
      chrSize := image.chr.length
      chrIsRam := image.chrIsRam
      mirrorH := image.mirrorH : Cartridge }
  let start := fun size : PrgSize =>
    State.powerOn (cart size) (Memory.ofBytes image.chr) ((Memory.ofBytes ramInit).restrict Config.ramSize)
      ((Memory.ofBytes vramInit).restrict Config.vramSize) ((Memory.ofBytes oamInit).restrict Config.oamSize)
  if image.wellFormed then .ok (start (if image.prg.length = 0x4000 then .k16 else .k32))
  else .refused (.prgSizeUnsupported image.prg.length)

end Sys2Proof.Machine
end

