-- ==== Sys2Proof/Machine/Step.lean ====
section
/-! DEFINITION. One step of the machine as the host sees it: one machine step (spec 60_exceptions R370) with the `keys` byte
of the frame in progress, and placing an instruction where the next step fetches it. -/

namespace Sys2Proof.Machine

/-- One machine step. -/
def step (s : State) : Host.Outcome State Fault Refusal :=
  match machineStep (Config.hostKeys s.frameNo) s with
  | .ok t => .next t
  | .raised f _ => .fault f
  | .refused r => .refused r

/-- The places a byte can be put so that a fetch there has no side effect and reads it back: work RAM and program ROM. -/
def fetchable (addr : Word) : Bool := decide (addr.toNat < Config.ramWindowEnd) || decide (Config.romBase ≤ addr.toNat)

/-- Puts one byte of code where a fetch at `addr` reads it. -/
def placeByte (addr : Word) (b : Byte) (s : State) : State :=
  match regionOf addr with
  | .ram i => { s with ram := s.ram.write i b }
  | .rom offset => { s with cart := { s.cart with prg := s.cart.prg.write (offset % s.cart.prgSize.bytes) b } }
  | _ => s

/-- `s` with the instruction whose bits are `w` placed so that the very next step fetches and runs it: at `PC`, or at
`0x8000` where `PC` addresses no code; nothing that would come before the fetch is left pending. Log entry 7. -/
def State.withFetchWord (s : State) (nbits w : Nat) : State :=
  let bits := BitVec.ofNat 24 (w % 2 ^ nbits)
  let pc := if fetchable s.pc && fetchable (s.pc + 1) && fetchable (s.pc + 2) then s.pc else 0x8000#16
  let ready := { s with
    pc := pc
    nmiRequest := false
    fault := none
    dmaLatch := if Config.ramSize ≤ dmaBase s.dmaLatch + 255 then 0x00 else s.dmaLatch }
  placeByte (pc + 2) (bits.extractLsb' 16 8) (placeByte (pc + 1) (bits.extractLsb' 8 8)
    (placeByte pc (bits.extractLsb' 0 8) ready))

end Sys2Proof.Machine
end

