-- ==== Sys2Proof/Safety.lean ====
section
/-! DEFINITION. The terms claims use: what a side-effect free read sees, which addresses are plain memory, and the invariant
of a running machine (spec 60_exceptions R353, 10_state R32, R44, R54). -/

namespace Sys2Proof.Machine

/-- The byte a bus read returns at an address whose read has no side effect (R74); `FILL` for the others. -/
def busByte (addr : Word) (s : State) : Byte :=
  match regionOf addr with
  | .ram i => s.ram.read i
  | .rom offset => s.cart.romByte offset
  | _ => Config.fill

/-- Reading the address has no side effect (R74): it is neither in the PPU register window nor the keypad register. -/
def plainAddr (addr : Word) : Bool :=
  match regionOf addr with
  | .port _ => false
  | .keypad => false
  | _ => true

/-- Every memory device holds a canonical list of cells inside its buffer (R44). -/
structure State.MemoriesOk (s : State) : Prop where
  ram : s.ram.wf = true ∧ s.ram.within Config.ramSize = true
  vram : s.vram.wf = true ∧ s.vram.within Config.vramSize = true
  oam : s.oam.wf = true ∧ s.oam.within Config.oamSize = true
  chr : s.chr.wf = true ∧ s.chr.within s.cart.chrSize = true
  prg : s.cart.prg.wf = true ∧ s.cart.prg.within s.cart.prgSize.bytes = true

/-- The most tile rows the background accumulator holds on a line (R348): one per eight lines entered, cleared on leaving
line 0. -/
def rowsAt (line : Nat) : Nat := if line = 0 then 30 else min (line / 8) 30

/-- What holds of a machine between machine steps: canonical memories, the PPU counters in range, `vblank` true exactly
on lines 241 to 261, the background no longer than its line allows (R353, R348), the reserved flag set (R32), no fault
recorded (R312). -/
structure State.Inv (s : State) : Prop where
  memories : s.MemoriesOk
  cycle : s.ppuCycle < Config.cyclesPerLine
  line : s.ppuLine < Config.linesPerFrame
  vblank : s.vblank = decide (Config.vblankLine ≤ s.ppuLine)
  background : s.background.length ≤ rowsAt s.ppuLine
  reserved : s.flags.r = true
  running : s.fault = none

end Sys2Proof.Machine
end

