-- ==== Sys2Proof/Certificates/Slice0/Obligations.lean ====
section
/-! DEFINITION. The statements for the provers, from the numbered rules of the spec. -/

open Sys2Proof Sys2Proof.Machine

namespace Sys2Proof.Claims

/-! ## Terms of the statements, written from the rules and not from the model's definitions -/

/-- `SetZN(v)` (R39): zero, and bit 7. -/
def zn (v : Byte) (f : Flags) : Flags := { f with z := decide (v = 0x00#8), n := decide (0x80 ≤ v.toNat) }

/-- A flag as the number 0 or 1 (R11). -/
def bit (p : Bool) : Nat := if p then 1 else 0

/-- The status byte by its bit weights (R34): bit 5 is always 1. -/
def statusByte (f : Flags) : Byte :=
  BitVec.ofNat 8 (128 * bit f.n + 64 * bit f.v + 32 + 16 * bit f.b + 8 * bit f.d + 4 * bit f.i + 2 * bit f.z + bit f.c)

/-- Bits 15:8 and 7:0 of a word (R11). -/
def upper (w : Word) : Byte := BitVec.ofNat 8 (w.toNat / 256)

/-- See `upper`. -/
def lower (w : Word) : Byte := BitVec.ofNat 8 (w.toNat % 256)

/-- `hi ++ lo` (R11). -/
def join (hi lo : Byte) : Word := BitVec.ofNat 16 (hi.toNat * 256 + lo.toNat)

/-- The RAM index of the stack byte at `sp` (R190): page 1. -/
def stackIndex (sp : Byte) : Nat := 0x100 + sp.toNat

/-- The vector word at offset `k` of the ROM window (R85, R71): low byte first. -/
def romWord (s : State) (k : Nat) : Word :=
  join (s.cart.prg.read ((k + 1) % s.cart.prgSize.bytes)) (s.cart.prg.read (k % s.cart.prgSize.bytes))

/-- `Operand()` (R123): an immediate is its own byte, with nothing read; a memory operand is one bus read at the effective
address. -/
def operandOf (src : Source) (s : State) : Byte × State :=
  match src with
  | .imm v => (v, s)
  | .mem m => busRead (resolve m s).1 (resolve m s).2

/-- Every form in the list reads its operand once, has `effect` with the byte read, costs its cycles, and completes. -/
def ReadsThen (forms : List (Instr × Source × Nat)) (s : State) (effect : Byte → State → State) : Prop :=
  ∀ f ∈ forms, exec f.1 s = .next
    (let m := operandOf f.2.1 s
     let t := effect m.1 m.2
     { t with cycles := t.cycles + f.2.2 })

/-- Every form in the list writes `value` at its effective address, costs its cycles, and completes. -/
def Stores (forms : List (Instr × Addressing × Nat)) (s : State) (value : Byte) : Prop :=
  ∀ f ∈ forms, exec f.1 s = .next
    (let t := busWrite (resolve f.2.1 s).1 value s
     { t with cycles := t.cycles + f.2.2 })

/-- Every form in the list reads one byte, writes the byte `f` makes of it at the same address, then has `effect` with the
byte written, costs its cycles, and completes. -/
def ModifiesThen (forms : List (Instr × Addressing × Nat)) (s : State) (f : Byte → Flags → Byte × Flags)
    (effect : Byte → State → State) : Prop :=
  ∀ g ∈ forms, exec g.1 s = .next
    (let ea := (resolve g.2.1 s).1
     let old := busRead ea s
     let new := f old.1 old.2.flags
     let t := effect new.1 (busWrite ea new.1 { old.2 with flags := new.2 })
     { t with cycles := t.cycles + g.2.2 })

/-- `AddCore(m)` (R200), with an unbounded sum. -/
def added (m : Byte) (t : State) : State :=
  let sum := t.a.toNat + m.toNat + bit t.flags.c
  let r := BitVec.ofNat 8 sum
  { t with
    a := r
    flags := zn r { t.flags with
      v := decide ((t.a ^^^ m) &&& 0x80#8 = 0x00#8 ∧ (t.a ^^^ r) &&& 0x80#8 ≠ 0x00#8)
      c := decide (0xFF < sum) } }

/-- The subtraction of R201: `(A - m - (1 - C)) mod 256`, `C` when no borrow occurred, `V` when the signs of `A` and `m`
differ and the result's sign differs from `A`'s. -/
def subtracted (m : Byte) (t : State) : State :=
  let borrow := 1 - bit t.flags.c
  let r := t.a - m - BitVec.ofNat 8 borrow
  { t with
    a := r
    flags := zn r { t.flags with
      v := decide ((t.a ^^^ m) &&& 0x80#8 ≠ 0x00#8 ∧ (t.a ^^^ r) &&& 0x80#8 ≠ 0x00#8)
      c := decide (m.toNat + borrow ≤ t.a.toNat) } }

/-- The compare of R202: `C` when `r >= m`, `Z` when they are equal, `N` bit 7 of the difference. -/
def compared (r m : Byte) (t : State) : State :=
  { t with flags := { t.flags with
      c := decide (m.toNat ≤ r.toNat)
      z := decide (r = m)
      n := decide (0x80 ≤ (r - m).toNat) } }

/-- The byte functions of the read-modify-write instructions (R221, R222, R227 to R230), in numbers. -/
def incremented (old : Byte) (f : Flags) : Byte × Flags := (BitVec.ofNat 8 (old.toNat + 1), f)

/-- See `incremented`. -/
def decremented (old : Byte) (f : Flags) : Byte × Flags := (BitVec.ofNat 8 (old.toNat + 255), f)

/-- See `incremented`. -/
def shiftedLeft (old : Byte) (f : Flags) : Byte × Flags :=
  (BitVec.ofNat 8 (2 * old.toNat), { f with c := decide (0x80 ≤ old.toNat) })

/-- See `incremented`. -/
def shiftedRight (old : Byte) (f : Flags) : Byte × Flags :=
  (BitVec.ofNat 8 (old.toNat / 2), { f with c := decide (old.toNat % 2 = 1) })

/-- See `incremented`. -/
def rotatedLeft (old : Byte) (f : Flags) : Byte × Flags :=
  (BitVec.ofNat 8 (2 * old.toNat + bit f.c), { f with c := decide (0x80 ≤ old.toNat) })

/-- See `incremented`. -/
def rotatedRight (old : Byte) (f : Flags) : Byte × Flags :=
  (BitVec.ofNat 8 (old.toNat / 2 + 128 * bit f.c), { f with c := decide (old.toNat % 2 = 1) })

/-- `SetZN(v)` on a state. -/
def setsZN (v : Byte) (t : State) : State := { t with flags := zn v t.flags }

/-- `A <- v; SetZN(v)`. -/
def loadsA (v : Byte) (t : State) : State := { t with a := v, flags := zn v t.flags }

/-- `X <- v; SetZN(v)`. -/
def loadsX (v : Byte) (t : State) : State := { t with x := v, flags := zn v t.flags }

/-- `Y <- v; SetZN(v)`. -/
def loadsY (v : Byte) (t : State) : State := { t with y := v, flags := zn v t.flags }

/-- The state with `n` more cycles charged. -/
def costing (n : Nat) (t : State) : State := { t with cycles := t.cycles + n }

/-- The addressing of an instruction with a memory operand or a jump target, read off its table row and its bytes. -/
def addressingOf (i : Instr) : Option Addressing :=
  match i.entry.mode, encode i with
  | .zeroPage, [_, z] => some (.zeroPage z)
  | .zeroPageX, [_, z] => some (.zeroPageX z)
  | .zeroPageY, [_, z] => some (.zeroPageY z)
  | .absolute, [_, lo, hi] => some (.absolute (join hi lo))
  | .absoluteX, [_, lo, hi] => some (.absoluteX (join hi lo))
  | .absoluteY, [_, lo, hi] => some (.absoluteY (join hi lo))
  | .preIndexedIndirect, [_, z] => some (.preIndexedIndirect z)
  | .postIndexedIndirect, [_, z] => some (.postIndexedIndirect z)
  | .indirectAbsolute, [_, lo, hi] => some (.indirectAbsolute (join hi lo))
  | _, _ => none

/-- The addresses an instruction that stores nothing reads its data at: none but JMP's pointer for a jump (R157, R162, R259),
the operand's for the others (R92, R93). -/
def dataReads (i : Instr) (s : State) : List Word :=
  match i.entry.mnemonic, addressingOf i with
  | .jmp, some (.indirectAbsolute w) => [w, join (upper w) (BitVec.ofNat 8 (w.toNat % 256 + 1))]
  | .jmp, _ => []
  | _, some m => [(resolve m s).1]
  | _, none => []

/-- The condition of each branch (R251 to R258); none for every other mnemonic. -/
def branchCondition (m : Mnemonic) (f : Flags) : Option Bool :=
  match m with
  | .bcc => some (!f.c)
  | .bcs => some f.c
  | .beq => some f.z
  | .bne => some (!f.z)
  | .bmi => some f.n
  | .bpl => some (!f.n)
  | .bvc => some (!f.v)
  | .bvs => some f.v
  | _ => none

/-- The target of a branch by `d` from the next instruction's address `pc` (R153): the signed offset, modulo 65536. -/
def target (pc : Word) (d : Byte) : Word := BitVec.ofInt 16 (pc.toNat + d.toInt)

/-- A branch taken or not (R250), on a machine whose `PC` is past it. -/
def branched (taken : Bool) (d : Byte) (s : State) : State :=
  if taken then
    { s with
      pc := target s.pc d
      cycles := s.cycles + (if (target s.pc d).toNat / 256 = s.pc.toNat / 256 then 3 else 4) }
  else { s with cycles := s.cycles + 2 }

/-- The extra cycles of R126: none but for a taken branch. -/
def extraCycles (i : Instr) (s : State) : Nat :=
  match branchCondition i.entry.mnemonic s.flags, encode i with
  | some true, [_, d] => if (target s.pc d).toNat / 256 = s.pc.toNat / 256 then 1 else 2
  | _, _ => 0

/-- The three pushes of BRK and the NMI entry (R264, R330). -/
def pushedFrame (ret : Word) (p : Byte) (s : State) : Memory :=
  ((s.ram.write (stackIndex s.sp) (upper ret)).write (stackIndex (s.sp - 1)) (lower ret)).write
    (stackIndex (s.sp - 2)) p

/-- The mnemonics that write memory at their effective address, outside Accumulator mode. -/
def storing : List Mnemonic :=
  [.sta, .stx, .sty, .sax, .inc, .dec, .asl, .lsr, .rol, .ror, .dcp, .isb, .slo, .rla, .sre, .rra]

/-- How many bytes a mnemonic pushes (R195). -/
def pushes : Mnemonic → Nat
  | .pha => 1
  | .php => 1
  | .jsr => 2
  | .brk => 3
  | _ => 0

/-- The device side of the machine: what only a port or keypad access, or the DMA, may change (R82, R83). -/
def SameDevices (s t : State) : Prop :=
  t.port = s.port ∧ t.keypad = s.keypad ∧ t.vram = s.vram ∧ t.chr = s.chr ∧ t.oam = s.oam

/-- The three bytes a fetch at `PC` would read in plain memory. -/
def codeAt (s : State) : List Byte := [busByte s.pc s, busByte (s.pc + 1) s, busByte (s.pc + 2) s]

/-- The machine at the head of a machine step (R370): old results gone, the frame's `keys` byte latched. -/
def begun (s : State) : State :=
  { s with cycles := 0, frame := none, keypad := Config.keyLatch s.keypad (Config.hostKeys s.frameNo) }

/-- The bytes without an opcode table entry (R132). -/
def noEntryBytes : List Byte :=
  [0x02, 0x04, 0x0B, 0x0C, 0x12, 0x14, 0x1A, 0x1C, 0x22, 0x2B, 0x32, 0x34, 0x3A, 0x3C, 0x42, 0x44, 0x4B, 0x52] ++
  [0x54, 0x5A, 0x5C, 0x62, 0x64, 0x6B, 0x72, 0x74, 0x7A, 0x7C, 0x80, 0x82, 0x89, 0x8B, 0x92, 0x93, 0x9B, 0x9C] ++
  [0x9E, 0x9F, 0xAB, 0xB2, 0xBB, 0xC2, 0xCB, 0xD2, 0xD4, 0xDA, 0xDC, 0xE2, 0xEB, 0xF2, 0xF4, 0xFA, 0xFC]

/-- The PPU's position in the frame, in ticks (R354). -/
def position (s : State) : Nat := s.ppuLine * 341 + s.ppuCycle

/-! ## The forms of each mnemonic -/

/-- The forms of LDA with what each reads and costs (R171). -/
def ldaForms (v : Byte) (z : Byte) (w : Word) : List (Instr × Source × Nat) :=
  [(.ldaIzx z, .mem (.preIndexedIndirect z), 6), (.ldaZp z, .mem (.zeroPage z), 3), (.ldaImm v, .imm v, 2),
   (.ldaAbs w, .mem (.absolute w), 4), (.ldaIzy z, .mem (.postIndexedIndirect z), 5),
   (.ldaZpx z, .mem (.zeroPageX z), 4), (.ldaAby w, .mem (.absoluteY w), 4), (.ldaAbx w, .mem (.absoluteX w), 4)]

/-- The forms of LDX with what each reads and costs (R172). -/
def ldxForms (v : Byte) (z : Byte) (w : Word) : List (Instr × Source × Nat) :=
  [(.ldxImm v, .imm v, 2), (.ldxZp z, .mem (.zeroPage z), 3), (.ldxAbs w, .mem (.absolute w), 4),
   (.ldxZpy z, .mem (.zeroPageY z), 4), (.ldxAby w, .mem (.absoluteY w), 4)]

/-- The forms of LDY with what each reads and costs (R173). -/
def ldyForms (v : Byte) (z : Byte) (w : Word) : List (Instr × Source × Nat) :=
  [(.ldyImm v, .imm v, 2), (.ldyZp z, .mem (.zeroPage z), 3), (.ldyAbs w, .mem (.absolute w), 4),
   (.ldyZpx z, .mem (.zeroPageX z), 4), (.ldyAbx w, .mem (.absoluteX w), 4)]

/-- The forms of LAX with what each reads and costs (R291). -/
def laxForms (z : Byte) (w : Word) : List (Instr × Source × Nat) :=
  [(.laxIzx z, .mem (.preIndexedIndirect z), 6), (.laxZp z, .mem (.zeroPage z), 3),
   (.laxAbs w, .mem (.absolute w), 4), (.laxIzy z, .mem (.postIndexedIndirect z), 5),
   (.laxZpy z, .mem (.zeroPageY z), 4), (.laxAby w, .mem (.absoluteY w), 4)]

/-- The forms of ADC with what each reads and costs (R200). -/
def adcForms (v : Byte) (z : Byte) (w : Word) : List (Instr × Source × Nat) :=
  [(.adcIzx z, .mem (.preIndexedIndirect z), 6), (.adcZp z, .mem (.zeroPage z), 3), (.adcImm v, .imm v, 2),
   (.adcAbs w, .mem (.absolute w), 4), (.adcIzy z, .mem (.postIndexedIndirect z), 5),
   (.adcZpx z, .mem (.zeroPageX z), 4), (.adcAby w, .mem (.absoluteY w), 4), (.adcAbx w, .mem (.absoluteX w), 4)]

/-- The forms of SBC with what each reads and costs (R201). -/
def sbcForms (v : Byte) (z : Byte) (w : Word) : List (Instr × Source × Nat) :=
  [(.sbcIzx z, .mem (.preIndexedIndirect z), 6), (.sbcZp z, .mem (.zeroPage z), 3), (.sbcImm v, .imm v, 2),
   (.sbcAbs w, .mem (.absolute w), 4), (.sbcIzy z, .mem (.postIndexedIndirect z), 5),
   (.sbcZpx z, .mem (.zeroPageX z), 4), (.sbcAby w, .mem (.absoluteY w), 4), (.sbcAbx w, .mem (.absoluteX w), 4)]

/-- The forms of CMP with what each reads and costs (R203). -/
def cmpForms (v : Byte) (z : Byte) (w : Word) : List (Instr × Source × Nat) :=
  [(.cmpIzx z, .mem (.preIndexedIndirect z), 6), (.cmpZp z, .mem (.zeroPage z), 3), (.cmpImm v, .imm v, 2),
   (.cmpAbs w, .mem (.absolute w), 4), (.cmpIzy z, .mem (.postIndexedIndirect z), 5),
   (.cmpZpx z, .mem (.zeroPageX z), 4), (.cmpAby w, .mem (.absoluteY w), 4), (.cmpAbx w, .mem (.absoluteX w), 4)]

/-- The forms of CPX with what each reads and costs (R204). -/
def cpxForms (v : Byte) (z : Byte) (w : Word) : List (Instr × Source × Nat) :=
  [(.cpxImm v, .imm v, 2), (.cpxZp z, .mem (.zeroPage z), 3), (.cpxAbs w, .mem (.absolute w), 4)]

/-- The forms of CPY with what each reads and costs (R205). -/
def cpyForms (v : Byte) (z : Byte) (w : Word) : List (Instr × Source × Nat) :=
  [(.cpyImm v, .imm v, 2), (.cpyZp z, .mem (.zeroPage z), 3), (.cpyAbs w, .mem (.absolute w), 4)]

/-- The forms of AND with what each reads and costs (R231). -/
def andForms (v : Byte) (z : Byte) (w : Word) : List (Instr × Source × Nat) :=
  [(.andIzx z, .mem (.preIndexedIndirect z), 6), (.andZp z, .mem (.zeroPage z), 3), (.andImm v, .imm v, 2),
   (.andAbs w, .mem (.absolute w), 4), (.andIzy z, .mem (.postIndexedIndirect z), 5),
   (.andZpx z, .mem (.zeroPageX z), 4), (.andAby w, .mem (.absoluteY w), 4), (.andAbx w, .mem (.absoluteX w), 4)]

/-- The forms of ORA with what each reads and costs (R232). -/
def oraForms (v : Byte) (z : Byte) (w : Word) : List (Instr × Source × Nat) :=
  [(.oraIzx z, .mem (.preIndexedIndirect z), 6), (.oraZp z, .mem (.zeroPage z), 3), (.oraImm v, .imm v, 2),
   (.oraAbs w, .mem (.absolute w), 4), (.oraIzy z, .mem (.postIndexedIndirect z), 5),
   (.oraZpx z, .mem (.zeroPageX z), 4), (.oraAby w, .mem (.absoluteY w), 4), (.oraAbx w, .mem (.absoluteX w), 4)]

/-- The forms of EOR with what each reads and costs (R233). -/
def eorForms (v : Byte) (z : Byte) (w : Word) : List (Instr × Source × Nat) :=
  [(.eorIzx z, .mem (.preIndexedIndirect z), 6), (.eorZp z, .mem (.zeroPage z), 3), (.eorImm v, .imm v, 2),
   (.eorAbs w, .mem (.absolute w), 4), (.eorIzy z, .mem (.postIndexedIndirect z), 5),
   (.eorZpx z, .mem (.zeroPageX z), 4), (.eorAby w, .mem (.absoluteY w), 4), (.eorAbx w, .mem (.absoluteX w), 4)]

/-- The forms of BIT with what each reads and costs (R234). -/
def bitForms (z : Byte) (w : Word) : List (Instr × Source × Nat) :=
  [(.bitZp z, .mem (.zeroPage z), 3), (.bitAbs w, .mem (.absolute w), 4)]

/-- The memory forms of STA with the addressing and the cost of each (R174). -/
def staForms (z : Byte) (w : Word) : List (Instr × Addressing × Nat) :=
  [(.staIzx z, .preIndexedIndirect z, 6), (.staZp z, .zeroPage z, 3), (.staAbs w, .absolute w, 4),
   (.staIzy z, .postIndexedIndirect z, 6), (.staZpx z, .zeroPageX z, 4), (.staAby w, .absoluteY w, 5),
   (.staAbx w, .absoluteX w, 5)]

/-- The memory forms of STX with the addressing and the cost of each (R175). -/
def stxForms (z : Byte) (w : Word) : List (Instr × Addressing × Nat) :=
  [(.stxZp z, .zeroPage z, 3), (.stxAbs w, .absolute w, 4), (.stxZpy z, .zeroPageY z, 4)]

/-- The memory forms of STY with the addressing and the cost of each (R176). -/
def styForms (z : Byte) (w : Word) : List (Instr × Addressing × Nat) :=
  [(.styZp z, .zeroPage z, 3), (.styAbs w, .absolute w, 4), (.styZpx z, .zeroPageX z, 4)]

/-- The memory forms of SAX with the addressing and the cost of each (R292). -/
def saxForms (z : Byte) (w : Word) : List (Instr × Addressing × Nat) :=
  [(.saxIzx z, .preIndexedIndirect z, 6), (.saxZp z, .zeroPage z, 3), (.saxAbs w, .absolute w, 4),
   (.saxZpy z, .zeroPageY z, 4)]

/-- The memory forms of INC with the addressing and the cost of each (R221). -/
def incForms (z : Byte) (w : Word) : List (Instr × Addressing × Nat) :=
  [(.incZp z, .zeroPage z, 5), (.incAbs w, .absolute w, 6), (.incZpx z, .zeroPageX z, 6),
   (.incAbx w, .absoluteX w, 7)]

/-- The memory forms of DEC with the addressing and the cost of each (R222). -/
def decForms (z : Byte) (w : Word) : List (Instr × Addressing × Nat) :=
  [(.decZp z, .zeroPage z, 5), (.decAbs w, .absolute w, 6), (.decZpx z, .zeroPageX z, 6),
   (.decAbx w, .absoluteX w, 7)]

/-- The memory forms of ASL with the addressing and the cost of each (R227). -/
def aslForms (z : Byte) (w : Word) : List (Instr × Addressing × Nat) :=
  [(.aslZp z, .zeroPage z, 5), (.aslAbs w, .absolute w, 6), (.aslZpx z, .zeroPageX z, 6),
   (.aslAbx w, .absoluteX w, 7)]

/-- The memory forms of LSR with the addressing and the cost of each (R228). -/
def lsrForms (z : Byte) (w : Word) : List (Instr × Addressing × Nat) :=
  [(.lsrZp z, .zeroPage z, 5), (.lsrAbs w, .absolute w, 6), (.lsrZpx z, .zeroPageX z, 6),
   (.lsrAbx w, .absoluteX w, 7)]

/-- The memory forms of ROL with the addressing and the cost of each (R229). -/
def rolForms (z : Byte) (w : Word) : List (Instr × Addressing × Nat) :=
  [(.rolZp z, .zeroPage z, 5), (.rolAbs w, .absolute w, 6), (.rolZpx z, .zeroPageX z, 6),
   (.rolAbx w, .absoluteX w, 7)]

/-- The memory forms of ROR with the addressing and the cost of each (R230). -/
def rorForms (z : Byte) (w : Word) : List (Instr × Addressing × Nat) :=
  [(.rorZp z, .zeroPage z, 5), (.rorAbs w, .absolute w, 6), (.rorZpx z, .zeroPageX z, 6),
   (.rorAbx w, .absoluteX w, 7)]

/-- The memory forms of DCP with the addressing and the cost of each (R293). -/
def dcpForms (z : Byte) (w : Word) : List (Instr × Addressing × Nat) :=
  [(.dcpIzx z, .preIndexedIndirect z, 8), (.dcpZp z, .zeroPage z, 5), (.dcpAbs w, .absolute w, 6),
   (.dcpIzy z, .postIndexedIndirect z, 8), (.dcpZpx z, .zeroPageX z, 6), (.dcpAby w, .absoluteY w, 7),
   (.dcpAbx w, .absoluteX w, 7)]

/-- The memory forms of ISB with the addressing and the cost of each (R294). -/
def isbForms (z : Byte) (w : Word) : List (Instr × Addressing × Nat) :=
  [(.isbIzx z, .preIndexedIndirect z, 8), (.isbZp z, .zeroPage z, 5), (.isbAbs w, .absolute w, 6),
   (.isbIzy z, .postIndexedIndirect z, 8), (.isbZpx z, .zeroPageX z, 6), (.isbAby w, .absoluteY w, 7),
   (.isbAbx w, .absoluteX w, 7)]

/-- The memory forms of SLO with the addressing and the cost of each (R295). -/
def sloForms (z : Byte) (w : Word) : List (Instr × Addressing × Nat) :=
  [(.sloIzx z, .preIndexedIndirect z, 8), (.sloZp z, .zeroPage z, 5), (.sloAbs w, .absolute w, 6),
   (.sloIzy z, .postIndexedIndirect z, 8), (.sloZpx z, .zeroPageX z, 6), (.sloAby w, .absoluteY w, 7),
   (.sloAbx w, .absoluteX w, 7)]

/-- The memory forms of RLA with the addressing and the cost of each (R296). -/
def rlaForms (z : Byte) (w : Word) : List (Instr × Addressing × Nat) :=
  [(.rlaIzx z, .preIndexedIndirect z, 8), (.rlaZp z, .zeroPage z, 5), (.rlaAbs w, .absolute w, 6),
   (.rlaIzy z, .postIndexedIndirect z, 8), (.rlaZpx z, .zeroPageX z, 6), (.rlaAby w, .absoluteY w, 7),
   (.rlaAbx w, .absoluteX w, 7)]

/-- The memory forms of SRE with the addressing and the cost of each (R297). -/
def sreForms (z : Byte) (w : Word) : List (Instr × Addressing × Nat) :=
  [(.sreIzx z, .preIndexedIndirect z, 8), (.sreZp z, .zeroPage z, 5), (.sreAbs w, .absolute w, 6),
   (.sreIzy z, .postIndexedIndirect z, 8), (.sreZpx z, .zeroPageX z, 6), (.sreAby w, .absoluteY w, 7),
   (.sreAbx w, .absoluteX w, 7)]

/-- The memory forms of RRA with the addressing and the cost of each (R298). -/
def rraForms (z : Byte) (w : Word) : List (Instr × Addressing × Nat) :=
  [(.rraIzx z, .preIndexedIndirect z, 8), (.rraZp z, .zeroPage z, 5), (.rraAbs w, .absolute w, 6),
   (.rraIzy z, .postIndexedIndirect z, 8), (.rraZpx z, .zeroPageX z, 6), (.rraAby w, .absoluteY w, 7),
   (.rraAbx w, .absoluteX w, 7)]

end Sys2Proof.Claims

open Sys2Proof.Claims

/-! ## Encoding -/

/-- Words written out from the encodings of the rules decode to the instruction they stand for, one at least of every
family (R171, R174, R191, R200, R227, R234, R253, R259, R260, R264, R270, R292, R298). -/
def Obligations.SampleWordsDecode : Prop :=
  decode [0xA9, 0xFF] = .ok (.ldaImm 0xFF, []) ∧
  decode [0x8D, 0x14, 0x40] = .ok (.staAbs 0x4014, []) ∧
  decode [0x48] = .ok (.pha, []) ∧
  decode [0x71, 0x86] = .ok (.adcIzy 0x86, []) ∧
  decode [0x0A, 0xEA] = .ok (.aslAcc, [0xEA]) ∧
  decode [0x2C, 0x00, 0x02] = .ok (.bitAbs 0x0200, []) ∧
  decode [0xF0, 0x20] = .ok (.beq 0x20, []) ∧
  decode [0x6C, 0xFF, 0x02] = .ok (.jmpInd 0x02FF, []) ∧
  decode [0x20, 0x10, 0x80] = .ok (.jsr 0x8010, []) ∧
  decode [0x00] = .ok (.brk, []) ∧
  decode [0x18] = .ok (.clc, []) ∧
  decode [0x97, 0x10] = .ok (.saxZpy 0x10, []) ∧
  decode [0x73, 0x20] = .ok (.rraIzy 0x20, []) ∧
  decode [0xAB, 0x00] = .error (.noEntry 0xAB) ∧
  decode [0xEB, 0x00] = .error (.noEntry 0xEB)

/-- The decoder gives back every well-formed instruction (in this hardware, every one) from its bytes, with every operand
value, and leaves what follows (R124, R131). -/
def Obligations.DecodeOfEncodeIsTheInstruction : Prop :=
  ∀ (i : Instr) (rest : List Byte), i.wellFormed = true → decode (encode i ++ rest) = .ok (i, rest)

/-- Whatever the decoder reads, its bytes are the instruction's encoding: no byte sequence has two readings (R122, R124). -/
def Obligations.EncodeOfDecodeIsTheBytes : Prop :=
  ∀ (bytes rest : List Byte) (i : Instr), decode bytes = .ok (i, rest) → bytes = encode i ++ rest

/-- R132: exactly the 53 listed bytes have no entry, and fetching one raises `DecodeFailure` with the byte and its address,
in the state after the opcode read and with no other change. -/
def Obligations.ListedBytesRaiseDecodeFailure : Prop :=
  noEntryBytes.length = 53 ∧
  (∀ op : Byte, decodeOpcode op = none ↔ op ∈ noEntryBytes) ∧
  ∀ s : State, s.fault = none → s.nmiRequest = false → (busRead s.pc s).1 ∈ noEntryBytes →
    cpuStep s = .raised (.decodeFailure (busRead s.pc s).1 s.pc) (busRead s.pc s).2

/-! ## Fetch and step -/

/-- R124: byte `k` of an instruction is read at `(pc0 + k) & 0xFFFF`, each once and in order, and the format's bytes make the
instruction; `PC` ends past it. -/
def Obligations.FetchReadsTheBytesInOrder : Prop :=
  ∀ s : State,
    let op := busRead s.pc s
    let b1 := busRead (s.pc + 1) op.2
    let b2 := busRead (s.pc + 2) b1.2
    (∀ i, decodeOpcode op.1 = some (.f1 i) → fetchInstr s = .instr i { op.2 with pc := s.pc + 1 }) ∧
    (∀ mk, decodeOpcode op.1 = some (.f2 mk) → fetchInstr s = .instr (mk b1.1) { b1.2 with pc := s.pc + 2 }) ∧
    (∀ mk, decodeOpcode op.1 = some (.f3 mk) →
      fetchInstr s = .instr (mk (join b2.1 b1.1)) { b2.2 with pc := s.pc + 3 }) ∧
    (decodeOpcode op.1 = none → fetchInstr s = .noEntry op.1 op.2)

/-- A step runs the decoded instruction (R121, R370): where the bytes at `PC` decode to `i`, no fault, DMA request or NMI is
pending and the bytes lie in plain memory, one step is `exec i` past the instruction's bytes, then three PPU ticks for each
cycle it cost. -/
def Obligations.StepRunsTheDecodedInstruction : Prop :=
  ∀ (s t : State) (i : Instr) (rest : List Byte),
    s.fault = none → s.dmaLatch = 0x00 → s.nmiRequest = false →
    plainAddr s.pc = true → plainAddr (s.pc + 1) = true → plainAddr (s.pc + 2) = true →
    decode (codeAt s) = .ok (i, rest) →
    exec i { begun s with pc := s.pc + BitVec.ofNat 16 (encode i).length } = .next t →
    step s = .next (ppuRun (3 * t.cycles) t)

/-- The same through any fetch, device addresses included, and with a DMA transfer drained first (R323, R370): the stall's 514
cycles are in the cost. -/
def Obligations.StepDrainsFetchesExecutesThenTicks : Prop :=
  ∀ (s d u t : State) (i : Instr),
    s.fault = none → s.nmiRequest = false → dmaDrain (begun s) = .ok d → fetchInstr d = .instr i u → exec i u = .next t →
    step s = .next (ppuRun (3 * t.cycles) t) ∧
    t.cycles = (if s.dmaLatch = 0x00 then 0 else 514) + i.entry.cycles + extraCycles i u

/-- R330, R331: with the request set, the CPU step fetches nothing; it pushes `PC` and the status byte with bit 4 clear, sets
`I`, loads `PC` from `0xFFFA`, clears the request, and costs 7. -/
def Obligations.PendingNmiIsTakenInPlaceOfAFetch : Prop :=
  ∀ s : State, s.fault = none → s.nmiRequest = true → cpuStep s = .ok
    { s with
      nmiRequest := false
      ram := pushedFrame s.pc (statusByte { s.flags with b := false }) s
      sp := s.sp - 3
      flags := { s.flags with i := true }
      pc := romWord s 0x7FFA
      cycles := s.cycles + 7 }

/-- R360, R361, R362: the drain does nothing for latch 0; for pages 1 to 7 it clears the latch, replaces all of `OAM` by the
page's 256 RAM bytes and adds 514 cycles; for a page of 8 and above it raises, with the latch cleared and no byte copied. -/
def Obligations.DmaDrainCopiesThePageOrRaises : Prop :=
  ∀ s : State,
    (s.dmaLatch = 0x00 → dmaDrain s = .ok s) ∧
    (1 ≤ s.dmaLatch.toNat → s.dmaLatch.toNat ≤ 7 → ∃ oam : Memory,
      dmaDrain s = .ok { s with dmaLatch := 0x00, oam := oam, cycles := s.cycles + 514 } ∧
      (∀ i < 256, oam.read i = s.ram.read (s.dmaLatch.toNat * 256 + i)) ∧
      (∀ i ≥ 256, oam.read i = s.oam.read i)) ∧
    (8 ≤ s.dmaLatch.toNat → dmaDrain s =
      .raised (.addressRangeViolation .workRam (s.dmaLatch.toNat * 256)) { s with dmaLatch := 0x00 })

/-- R312, R381, U6: a machine with a recorded fault takes no machine step, no CPU step and no reset. -/
def Obligations.FaultedMachineTakesNoStep : Prop :=
  ∀ (s : State) (f : Fault) (keys : Byte), s.fault = some f →
    machineStep keys s = .refused .machineFaulted ∧ cpuStep s = .refused .machineFaulted ∧
    step s = .refused .machineFaulted ∧ resetCpu s = .refused .machineFaulted

/-- R311, R312, R313, R370: a machine step that raises stops with the fault, records it, returns no cost and moves no PPU
counter: for a DMA page outside work RAM, with the latch cleared and no byte copied; for an opcode byte without an entry, read
from any address, after whatever the drain did (its copy and the cleared latch stay) and the opcode read's side effect. -/
def Obligations.RaisingStepRecordsTheFault : Prop :=
  ∀ s : State, s.fault = none →
    (8 ≤ s.dmaLatch.toNat →
      let f := Fault.addressRangeViolation .workRam (s.dmaLatch.toNat * 256)
      step s = .fault f ∧
      machineStep (Config.hostKeys s.frameNo) s = .raised f { begun s with dmaLatch := 0x00, fault := some f }) ∧
    (∀ d : State, dmaDrain (begun s) = .ok d → s.nmiRequest = false → (busRead s.pc d).1 ∈ noEntryBytes →
      let f := Fault.decodeFailure (busRead s.pc d).1 s.pc
      step s = .fault f ∧
      machineStep (Config.hostKeys s.frameNo) s = .raised f { (busRead s.pc d).2 with fault := some f, cycles := 0 })

/-- R323, R331, R370, T17: with an NMI request pending, a machine step is the drain, then the entry, then three PPU ticks for
each cycle; the cost is 7 with no DMA request and 521 with one for pages 1 to 7. -/
def Obligations.DmaThenNmiInOneStep : Prop :=
  ∀ s : State, s.fault = none → s.nmiRequest = true →
    (s.dmaLatch = 0x00 → ∃ t : State, cpuStep (begun s) = .ok t ∧ t.cycles = 7 ∧ step s = .next (ppuRun (3 * 7) t)) ∧
    (1 ≤ s.dmaLatch.toNat → s.dmaLatch.toNat ≤ 7 →
      ∃ d t : State, dmaDrain (begun s) = .ok d ∧ cpuStep d = .ok t ∧ t.cycles = 521 ∧
        step s = .next (ppuRun (3 * 521) t))

/-- R126, R133, R404: every instruction completes, at its base cost and the branch extra, 2 to 8 cycles. -/
def Obligations.EveryInstructionCompletesAtItsCost : Prop :=
  ∀ (i : Instr) (s : State), ∃ t, exec i s = .next t ∧
    t.cycles = s.cycles + i.entry.cycles + extraCycles i s ∧
    2 ≤ i.entry.cycles + extraCycles i s ∧ i.entry.cycles + extraCycles i s ≤ 8

/-! ## Invariant, PPU, reset -/

/-- R353 with R32, R44, R348, R312: from every state with the invariant (canonical memories inside their devices, the PPU
counters in range, `vblank` exactly on lines 241 to 261, no more tile rows than the line allows, the reserved flag true, no
fault recorded) a step that answers a next state keeps it. -/
def Obligations.StepKeepsTheInvariant : Prop :=
  ∀ s t : State, s.Inv → step s = .next t → t.Inv

/-- R60, R380: power-on of every cartridge and memories in canonical form has the invariant that every step keeps, and so has
power-on from every image the model accepts; reset keeps it, from every state that has it. State.reset has it: its blank
cartridge and its memories that list nothing are the model's own choice (log entries 1 and 2). -/
def Obligations.ResetHasTheInvariant : Prop :=
  (∀ (cart : Cartridge) (chr ram vram oam : Memory), (State.powerOn cart chr ram vram oam).MemoriesOk →
    (State.powerOn cart chr ram vram oam).Inv) ∧
  (∀ (image : CartImage) (ram vram oam : List Byte), image.wellFormed = true →
    ∃ s, powerOnImage image ram vram oam = .ok s ∧ s.Inv) ∧
  (∀ s : State, s.Inv → ∃ t, resetCpu s = .ok t ∧ t.Inv) ∧
  State.reset.Inv

/-- R354: from offset `k` the next frame completion comes after exactly `89342 - k` ticks, at the start of line 0, however the
ticks are grouped; the first frame from power-on at tick 89342. -/
def Obligations.FrameCompletesAfter89342Ticks : Prop :=
  (∀ (m n : Nat) (s : State), ppuRun (m + n) s = ppuRun n (ppuRun m s)) ∧
  ∀ s : State, s.ppuCycle ≤ 340 → s.ppuLine ≤ 261 → s.frame = none →
    (∀ n, n < 89342 - position s → (ppuRun n s).frame = none) ∧
    (ppuRun (89342 - position s) s).frame ≠ none ∧
    (ppuRun (89342 - position s) s).ppuLine = 0 ∧ (ppuRun (89342 - position s) s).ppuCycle = 0

/-- R345, R346, R353: `n` ticks advance the position `line * 341 + cycle` by `n` modulo 89342, the counters stay in range, and
`vblank` stays true exactly on lines 241 to 261. -/
def Obligations.PpuPositionAdvancesModuloTheFrame : Prop :=
  ∀ (n : Nat) (s : State), s.ppuCycle ≤ 340 → s.ppuLine ≤ 261 → s.vblank = decide (241 ≤ s.ppuLine) →
    position (ppuRun n s) = (position s + n) % 89342 ∧
    (ppuRun n s).ppuCycle ≤ 340 ∧ (ppuRun n s).ppuLine ≤ 261 ∧
    (ppuRun n s).vblank = decide (241 ≤ (ppuRun n s).ppuLine)

/-- R345, R346, R347: a tick below cycle 340 moves only the cycle counter and at 340 is the line boundary; `n` ticks are one
after the other and leave everything but the PPU's counters, flag, background, request, port and frame output alone. The line
boundary, line by line of the spec's pseudocode: a tile row on entering a line that is a multiple of 8 and
at most 240, vertical blank and the request on entering 241, the frame on entering 262, nothing more elsewhere; the port's
state after an event is the event's answer with `NmiEnable` as before (R350; log entry 3). -/
def Obligations.LineBoundaryEvents : Prop :=
  ∀ s : State,
    (s.ppuCycle < 340 → ppuTick s = { s with ppuCycle := s.ppuCycle + 1 }) ∧
    (340 ≤ s.ppuCycle → ppuTick s = lineBoundary s) ∧
    (ppuRun 0 s = s ∧ ∀ n, ppuRun (n + 1) s = ppuTick (ppuRun n s)) ∧
    (∀ n, let r := ppuRun n s
      r = { s with
        ppuCycle := r.ppuCycle, ppuLine := r.ppuLine, vblank := r.vblank, background := r.background,
        nmiRequest := r.nmiRequest, port := r.port, frame := r.frame, frameNo := r.frameNo }) ∧
    let chr : ChrBuffer := { cells := s.chr, size := s.cart.chrSize }
    let bg := if s.ppuLine = 0 then [] else s.background
    let t := { s with background := bg, ppuCycle := 0, ppuLine := s.ppuLine + 1 }
    (s.ppuLine + 1 ≤ 240 → (s.ppuLine + 1) % 8 = 0 → lineBoundary s = { t with
      background := bg ++ [Config.buildTileRow s.vram chr s.cart.mirrorH (Config.scroll s.port)
        ((s.ppuLine + 1) / 8 - 1)] }) ∧
    (s.ppuLine = 240 → ∃ port : PortState, port.nmiEnable = s.port.nmiEnable ∧
      port.code = (Config.portLineEvent s.port .vblankBegin).code ∧ lineBoundary s = { t with
        vblank := true, nmiRequest := s.nmiRequest || s.port.nmiEnable, port := port }) ∧
    (s.ppuLine = 261 → ∃ port : PortState, port.nmiEnable = s.port.nmiEnable ∧
      port.code = (Config.portLineEvent s.port .frameEnd).code ∧ lineBoundary s = { t with
        vblank := false, port := port, ppuLine := 0, frameNo := s.frameNo + 1,
        frame := some { background := bg, sprites := Config.buildSprites s.oam chr s.port } }) ∧
    (¬ (s.ppuLine + 1 ≤ 240 ∧ (s.ppuLine + 1) % 8 = 0) → s.ppuLine ≠ 240 → s.ppuLine ≠ 261 → lineBoundary s = t)

/-- R348, R352: on line `L >= 1` of a frame the background holds `L / 8` rows, at most 30, whatever it held on line 0, and the
frame handed out has 30. -/
def Obligations.FrameHasThirtyTileRows : Prop :=
  ∀ s : State, s.ppuLine = 0 → s.ppuCycle ≤ 340 → s.frame = none →
    (∀ n, 341 ≤ s.ppuCycle + n → s.ppuCycle + n < 89342 →
      (ppuRun n s).background.length = min ((s.ppuCycle + n) / 341 / 8) 30) ∧
    ∃ f, (ppuRun (89342 - s.ppuCycle) s).frame = some f ∧ f.background.length = 30

/-- R332, R350, R391: a tick raises the NMI request only by entering line 241 with `NmiEnable` true then, and never clears it;
and it leaves `NmiEnable` as it is, R350's condition on the port, which the model holds by its own choice (log entry 3). -/
def Obligations.NmiIsRaisedOnlyEnteringLine241 : Prop :=
  ∀ s : State,
    (ppuTick s).nmiRequest = (s.nmiRequest || (decide (s.ppuLine = 240) && decide (340 ≤ s.ppuCycle) && s.port.nmiEnable)) ∧
    (ppuTick s).port.nmiEnable = s.port.nmiEnable

/-- R380: the reset transition sets the six CPU registers, `PC` from the vector at `0xFFFC`, and touches nothing else: no
memory, latch, request, PPU counter or cost; a machine with a recorded fault is refused. -/
def Obligations.ResetReinitialisesTheRegisters : Prop :=
  ∀ s : State,
    (s.fault = none → resetCpu s = .ok { s with
      a := 0x00
      x := 0x00
      y := 0x00
      sp := 0xFD
      flags := { n := false, v := false, r := true, b := true, d := false, i := true, z := false, c := false }
      pc := romWord s 0x7FFC }) ∧
    (s.fault ≠ none → resetCpu s = .refused .machineFaulted)

/-- State.reset is power-on then reset, for the blank cartridge and memories that list nothing: the model's own choice (log
entries 1 and 2); the register values are R60's, and power-on has them with `PC = 0x8000` for every cartridge and memory. -/
def Obligations.ResetStateIsPowerOnThenReset : Prop :=
  resetCpu (State.powerOn Cartridge.blank [] [] [] []) = .ok State.reset ∧
  ∀ (cart : Cartridge) (chr ram vram oam : Memory),
    let s := State.powerOn cart chr ram vram oam
    s.a = 0x00 ∧ s.x = 0x00 ∧ s.y = 0x00 ∧ s.sp = 0xFD ∧ s.pc = 0x8000 ∧ statusByte s.flags = 0x34 ∧
    s.ram = ram ∧ s.vram = vram ∧ s.oam = oam ∧ s.chr = chr ∧ s.dmaLatch = 0x00 ∧ s.nmiRequest = false ∧
    s.ppuCycle = 0 ∧ s.ppuLine = 0 ∧ s.vblank = false ∧ s.background = [] ∧ s.port.nmiEnable = false ∧ s.fault = none

/-! ## Bus, addressing, stack, status -/

/-- R80: the bus read by address range, with the index `addr & 0x07FF` in RAM and `(addr - 0x8000) mod PRG_SIZE` in ROM; the
memories the port answers are kept to their devices' sizes, the model's choice of log entries 4 and 21. -/
def Obligations.BusReadByRange : Prop :=
  ∀ (addr : Word) (s : State),
    (addr.toNat ≤ 0x1FFF → busRead addr s = (s.ram.read (addr &&& 0x07FF#16).toNat, s)) ∧
    (0x2000 ≤ addr.toNat → addr.toNat ≤ 0x3FFF →
      let mem : PpuMem := { vram := s.vram, chr := { cells := s.chr, size := s.cart.chrSize }, oam := s.oam }
      let r := Config.portRead s.port mem (BitVec.ofNat 3 (addr.toNat % 8))
      busRead addr s = (r.1, { s with
        port := r.2.1
        vram := r.2.2.vram.restrict 0x2000
        chr := if s.cart.chrIsRam then r.2.2.chr.cells.restrict s.cart.chrSize else s.chr
        oam := r.2.2.oam.restrict 256 })) ∧
    (addr = 0x4016 → busRead addr s = ((Config.keyRead s.keypad).1, { s with keypad := (Config.keyRead s.keypad).2 })) ∧
    (0x8000 ≤ addr.toNat → busRead addr s = (s.cart.prg.read ((addr.toNat - 0x8000) % s.cart.prgSize.bytes), s)) ∧
    (0x4000 ≤ addr.toNat → addr.toNat ≤ 0x7FFF → addr ≠ 0x4016 → busRead addr s = (0x00, s))

/-- R81: the bus write by address range; a write to ROM, to an unmapped address or to nothing changes nothing; the memories
the port answers are kept to their devices' sizes, the model's choice of log entries 4 and 21. -/
def Obligations.BusWriteByRange : Prop :=
  ∀ (addr : Word) (v : Byte) (s : State),
    (addr.toNat ≤ 0x1FFF → busWrite addr v s = { s with ram := s.ram.write (addr &&& 0x07FF#16).toNat v }) ∧
    (0x2000 ≤ addr.toNat → addr.toNat ≤ 0x3FFF →
      let mem : PpuMem := { vram := s.vram, chr := { cells := s.chr, size := s.cart.chrSize }, oam := s.oam }
      let r := Config.portWrite s.port mem (BitVec.ofNat 3 (addr.toNat % 8)) v
      busWrite addr v s = { s with
        port := r.1
        vram := r.2.vram.restrict 0x2000
        chr := if s.cart.chrIsRam then r.2.chr.cells.restrict s.cart.chrSize else s.chr
        oam := r.2.oam.restrict 256 }) ∧
    (addr = 0x4014 → busWrite addr v s = { s with dmaLatch := v }) ∧
    (addr = 0x4016 → busWrite addr v s = { s with keypad := Config.keyWrite s.keypad v }) ∧
    (0x4000 ≤ addr.toNat → addr ≠ 0x4014 → addr ≠ 0x4016 → busWrite addr v s = s)

/-- R86, R100: a RAM read returns the latest write to the same device byte, through any mirror, and other bytes keep theirs;
and, the model's choice of log entry 4, a memory the port answers is taken over byte for byte inside the device's size. -/
def Obligations.RamReadsTheLatestWrite : Prop :=
  (∀ (p q : Word) (v : Byte) (s : State), p.toNat ≤ 0x1FFF → q.toNat ≤ 0x1FFF →
    (busRead q (busWrite p v s)).1 = if p &&& 0x07FF#16 = q &&& 0x07FF#16 then v else (busRead q s).1) ∧
  ∀ (m : Memory) (size i : Nat), i < size → (m.restrict size).read i = m.read i

/-- R154, R155, R156: the zero-page modes; the sum wraps inside page 0. -/
def Obligations.ZeroPageModes : Prop :=
  ∀ (z : Byte) (s : State),
    resolve (.zeroPage z) s = (BitVec.ofNat 16 z.toNat, s) ∧
    resolve (.zeroPageX z) s = (BitVec.ofNat 16 ((z.toNat + s.x.toNat) % 256), s) ∧
    resolve (.zeroPageY z) s = (BitVec.ofNat 16 ((z.toNat + s.y.toNat) % 256), s)

/-- R157, R158, R159: the absolute modes; the sum wraps modulo 65536. -/
def Obligations.AbsoluteModes : Prop :=
  ∀ (w : Word) (s : State),
    resolve (.absolute w) s = (w, s) ∧
    resolve (.absoluteX w) s = (BitVec.ofNat 16 ((w.toNat + s.x.toNat) % 65536), s) ∧
    resolve (.absoluteY w) s = (BitVec.ofNat 16 ((w.toNat + s.y.toNat) % 65536), s)

/-- R160, R161: both pointer bytes come from page 0, and only the indexed address leaves it. -/
def Obligations.ZeroPageIndirectModes : Prop :=
  ∀ (z : Byte) (s : State),
    (let p := (z.toNat + s.x.toNat) % 256
     resolve (.preIndexedIndirect z) s = (join (s.ram.read ((p + 1) % 256)) (s.ram.read p), s)) ∧
    (let base := join (s.ram.read ((z.toNat + 1) % 256)) (s.ram.read z.toNat)
     resolve (.postIndexedIndirect z) s = (BitVec.ofNat 16 ((base.toNat + s.y.toNat) % 65536), s))

/-- R162: the pointer's second byte is read in the pointer's own page. -/
def Obligations.IndirectAbsoluteStaysInThePage : Prop :=
  ∀ (w : Word) (s : State),
    let lo := busRead w s
    let hi := busRead (join (upper w) (BitVec.ofNat 8 (w.toNat % 256 + 1))) lo.2
    resolve (.indirectAbsolute w) s = (join hi.1 lo.1, hi.2)

/-- R190: a push writes at `0x0100 | SP` and decrements, a pop increments and reads; a pop after a push returns the byte and
restores `SP`. -/
def Obligations.PushAndPop : Prop :=
  ∀ (v : Byte) (s : State),
    push v s = { s with ram := s.ram.write (stackIndex s.sp) v, sp := s.sp - 1 } ∧
    pop s = (s.ram.read (stackIndex (s.sp + 1)), { s with sp := s.sp + 1 }) ∧
    pop (push v s) = (v, { s with ram := s.ram.write (stackIndex s.sp) v })

/-- R34, R35: the status byte by its bits; decomposing `b` forces the reserved flag true and assembling gives `b | 0x20` back,
so every other flag takes its bit; assembling then decomposing changes only the reserved flag. -/
def Obligations.StatusByteRoundTrip : Prop :=
  (∀ f : Flags, getP f = statusByte f) ∧
  (∀ b : Byte, getP (setP b) = b ||| 0x20#8 ∧ (setP b).r = true) ∧
  ∀ f : Flags, setP (getP f) = { f with r := true }

/-! ## Loads, stores, transfers, stack instructions -/

/-- R171, R172, R173, R291: a load writes its register and `Z`, `N`, and nothing else; LAX writes both `A` and `X` with one
read. -/
def Obligations.LoadsWriteTheRegister : Prop :=
  ∀ (s : State) (v z : Byte) (w : Word),
    ReadsThen (ldaForms v z w) s loadsA ∧
    ReadsThen (ldxForms v z w) s loadsX ∧
    ReadsThen (ldyForms v z w) s loadsY ∧
    ReadsThen (laxForms z w) s (fun m t => { loadsA m t with x := m })

/-- R174, R175, R176, R292: a store writes one byte at the effective address and no flag. -/
def Obligations.StoresWriteOneByte : Prop :=
  ∀ (s : State) (z : Byte) (w : Word),
    Stores (staForms z w) s s.a ∧
    Stores (stxForms z w) s s.x ∧
    Stores (styForms z w) s s.y ∧
    Stores (saxForms z w) s (s.a &&& s.x)

/-- R177 to R182: a transfer moves the byte and sets `Z`, `N`; TXS sets no flag. -/
def Obligations.TransfersMoveTheByte : Prop :=
  ∀ s : State,
    exec .tax s = .next (costing 2 (loadsX s.a s)) ∧
    exec .txa s = .next (costing 2 (loadsA s.x s)) ∧
    exec .tay s = .next (costing 2 (loadsY s.a s)) ∧
    exec .tya s = .next (costing 2 (loadsA s.y s)) ∧
    exec .tsx s = .next (costing 2 (loadsX s.sp s)) ∧
    exec .txs s = .next (costing 2 { s with sp := s.x })

/-- R191 to R194: PHA pushes `A`; PLA pulls it and sets `Z`, `N`; PHP sets the break flag and pushes the status byte; PLP
loads every flag from the pulled byte. -/
def Obligations.StackInstructions : Prop :=
  ∀ s : State,
    exec .pha s = .next (costing 3 { s with ram := s.ram.write (stackIndex s.sp) s.a, sp := s.sp - 1 }) ∧
    exec .pla s = .next (costing 4 (loadsA (s.ram.read (stackIndex (s.sp + 1))) { s with sp := s.sp + 1 })) ∧
    exec .php s = .next (costing 3 { s with
      flags := { s.flags with b := true }
      ram := s.ram.write (stackIndex s.sp) (statusByte { s.flags with b := true })
      sp := s.sp - 1 }) ∧
    exec .plp s = .next (costing 4 { s with flags := setP (s.ram.read (stackIndex (s.sp + 1))), sp := s.sp + 1 })

/-! ## Arithmetic -/

/-- R200: ADC in all eight forms. -/
def Obligations.AdcAddsWithCarry : Prop :=
  ∀ (s : State) (v z : Byte) (w : Word), ReadsThen (adcForms v z w) s added

/-- R206, R38: the carry is the carry out of the unsigned sum and the overflow flag is the signed sum leaving -128 to 127,
whatever `D` holds (R33). -/
def Obligations.AddCoreIsUnsignedAndSignedAddition : Prop :=
  ∀ (a m : Byte) (f : Flags),
    let out := addCore a m f
    out.1.toNat = (a.toNat + m.toNat + bit f.c) % 256 ∧
    out.2.c = decide (256 ≤ a.toNat + m.toNat + bit f.c) ∧
    out.2.v = decide (a.toInt + m.toInt + bit f.c < -128 ∨ 127 < a.toInt + m.toInt + bit f.c) ∧
    out.2.z = decide (out.1 = 0x00#8) ∧ out.2.n = decide (out.1.toInt < 0) ∧
    out.2.r = f.r ∧ out.2.b = f.b ∧ out.2.d = f.d ∧ out.2.i = f.i

/-- R201: SBC in all eight forms. -/
def Obligations.SbcSubtractsWithBorrow : Prop :=
  ∀ (s : State) (v z : Byte) (w : Word), ReadsThen (sbcForms v z w) s subtracted

/-- R202 to R205: the compares set `C`, `Z`, `N` and store nothing. -/
def Obligations.ComparesSetTheFlags : Prop :=
  ∀ (s : State) (v z : Byte) (w : Word),
    ReadsThen (cmpForms v z w) s (fun m t => compared t.a m t) ∧
    ReadsThen (cpxForms v z w) s (fun m t => compared t.x m t) ∧
    ReadsThen (cpyForms v z w) s (fun m t => compared t.y m t)

/-! ## Increments, shifts, logic -/

/-- R221, R222: INC and DEC wrap modulo 256 and set `Z`, `N` only. -/
def Obligations.MemoryIncrementsAndDecrements : Prop :=
  ∀ (s : State) (z : Byte) (w : Word),
    ModifiesThen (incForms z w) s incremented setsZN ∧
    ModifiesThen (decForms z w) s decremented setsZN

/-- R223 to R226: the register increments and decrements. -/
def Obligations.RegisterIncrementsAndDecrements : Prop :=
  ∀ s : State,
    exec .inx s = .next (costing 2 (loadsX (BitVec.ofNat 8 (s.x.toNat + 1)) s)) ∧
    exec .iny s = .next (costing 2 (loadsY (BitVec.ofNat 8 (s.y.toNat + 1)) s)) ∧
    exec .dex s = .next (costing 2 (loadsX (BitVec.ofNat 8 (s.x.toNat + 255)) s)) ∧
    exec .dey s = .next (costing 2 (loadsY (BitVec.ofNat 8 (s.y.toNat + 255)) s))

/-- R227, R228: ASL and LSR on the accumulator and on memory. -/
def Obligations.ShiftsMoveOneBit : Prop :=
  ∀ (s : State) (z : Byte) (w : Word),
    ModifiesThen (aslForms z w) s shiftedLeft setsZN ∧
    ModifiesThen (lsrForms z w) s shiftedRight setsZN ∧
    (let r := shiftedLeft s.a s.flags
     exec .aslAcc s = .next (costing 2 (loadsA r.1 { s with flags := r.2 }))) ∧
    (let r := shiftedRight s.a s.flags
     exec .lsrAcc s = .next (costing 2 (loadsA r.1 { s with flags := r.2 })))

/-- R229, R230: ROL and ROR on the accumulator and on memory, through the carry. -/
def Obligations.RotatesGoThroughTheCarry : Prop :=
  ∀ (s : State) (z : Byte) (w : Word),
    ModifiesThen (rolForms z w) s rotatedLeft setsZN ∧
    ModifiesThen (rorForms z w) s rotatedRight setsZN ∧
    (let r := rotatedLeft s.a s.flags
     exec .rolAcc s = .next (costing 2 (loadsA r.1 { s with flags := r.2 }))) ∧
    (let r := rotatedRight s.a s.flags
     exec .rorAcc s = .next (costing 2 (loadsA r.1 { s with flags := r.2 })))

/-- R231, R232, R233: the logical operations. -/
def Obligations.LogicCombinesIntoA : Prop :=
  ∀ (s : State) (v z : Byte) (w : Word),
    ReadsThen (andForms v z w) s (fun m t => loadsA (t.a &&& m) t) ∧
    ReadsThen (oraForms v z w) s (fun m t => loadsA (t.a ||| m) t) ∧
    ReadsThen (eorForms v z w) s (fun m t => loadsA (t.a ^^^ m) t)

/-- R234: BIT tests `A & m` and copies bits 7 and 6. -/
def Obligations.BitTestsMemory : Prop :=
  ∀ (s : State) (z : Byte) (w : Word),
    ReadsThen (bitForms z w) s (fun m t => { t with flags := { t.flags with
      z := decide (t.a &&& m = 0x00#8)
      n := decide (0x80 ≤ m.toNat)
      v := decide (0x40 ≤ m.toNat % 0x80) } })

/-! ## Control transfer and flags -/

/-- R250 to R258: the eight branches, with their conditions, targets and costs. -/
def Obligations.BranchesTestOneFlag : Prop :=
  ∀ (s : State) (d : Byte),
    exec (.bcc d) s = .next (branched (!s.flags.c) d s) ∧
    exec (.bcs d) s = .next (branched s.flags.c d s) ∧
    exec (.beq d) s = .next (branched s.flags.z d s) ∧
    exec (.bne d) s = .next (branched (!s.flags.z) d s) ∧
    exec (.bmi d) s = .next (branched s.flags.n d s) ∧
    exec (.bpl d) s = .next (branched (!s.flags.n) d s) ∧
    exec (.bvc d) s = .next (branched (!s.flags.v) d s) ∧
    exec (.bvs d) s = .next (branched s.flags.v d s)

/-- R259: JMP in both forms. -/
def Obligations.JumpsSetPc : Prop :=
  ∀ (s : State) (w : Word),
    exec (.jmpAbs w) s = .next (costing 3 { s with pc := w }) ∧
    (let ea := resolve (.indirectAbsolute w) s
     exec (.jmpInd w) s = .next (costing 5 { ea.2 with pc := ea.1 }))

/-- R260, R261: JSR pushes the address of its own last byte, high byte first; RTS pulls it and adds one; RTS after JSR
resumes after the JSR. -/
def Obligations.CallAndReturn : Prop :=
  ∀ (s : State) (w : Word),
    (let ret := s.pc - 1
     let called := costing 6 { s with
       ram := (s.ram.write (stackIndex s.sp) (upper ret)).write (stackIndex (s.sp - 1)) (lower ret)
       sp := s.sp - 2
       pc := w }
     exec (.jsr w) s = .next called ∧
     exec .rts called = .next (costing 6 { called with sp := s.sp, pc := s.pc })) ∧
    exec .rts s = .next (costing 6 { s with
      sp := s.sp + 2
      pc := join (s.ram.read (stackIndex (s.sp + 2))) (s.ram.read (stackIndex (s.sp + 1))) + 1 })

/-- R262: RTI pulls the status byte, then the address, and adds nothing. -/
def Obligations.RtiRestoresStatusAndPc : Prop :=
  ∀ s : State, exec .rti s = .next (costing 6 { s with
    flags := setP (s.ram.read (stackIndex (s.sp + 1)))
    sp := s.sp + 3
    pc := join (s.ram.read (stackIndex (s.sp + 3))) (s.ram.read (stackIndex (s.sp + 2))) })

/-- R262, R333: RTI right after the NMI entry of a machine whose reserved flag is true (R32) restores `PC`, `SP` and every
flag but the break flag, which reads 0. -/
def Obligations.RtiUndoesTheNmiEntry : Prop :=
  ∀ s t : State, s.nmiRequest = true → s.flags.r = true → cpuStep s = .ok t →
    exec .rti t = .next { t with
      pc := s.pc
      sp := s.sp
      flags := { s.flags with b := false }
      cycles := t.cycles + 6 }

/-- R264: BRK pushes `pc0 + 2` and the status byte with bits 4 and 5 set; it takes the vector and sets `I` only when `I` was
clear, at 7 cycles either way. On entry `PC` is `pc0 + 1`. -/
def Obligations.BrkPushesThenMayTakeTheVector : Prop :=
  ∀ s : State, exec .brk s = .next (costing 7 { s with
    ram := pushedFrame (s.pc + 1) (statusByte { s.flags with b := true }) s
    sp := s.sp - 3
    flags := { s.flags with b := true, i := true }
    pc := if s.flags.i then s.pc else romWord s 0x7FFE })

/-- R270 to R277: each flag instruction writes its one flag, and NOP nothing, in 2 cycles. -/
def Obligations.FlagInstructionsWriteOneFlag : Prop :=
  ∀ s : State,
    exec .clc s = .next (costing 2 { s with flags := { s.flags with c := false } }) ∧
    exec .sec s = .next (costing 2 { s with flags := { s.flags with c := true } }) ∧
    exec .cli s = .next (costing 2 { s with flags := { s.flags with i := false } }) ∧
    exec .sei s = .next (costing 2 { s with flags := { s.flags with i := true } }) ∧
    exec .clv s = .next (costing 2 { s with flags := { s.flags with v := false } }) ∧
    exec .cld s = .next (costing 2 { s with flags := { s.flags with d := false } }) ∧
    exec .sed s = .next (costing 2 { s with flags := { s.flags with d := true } }) ∧
    exec .nop s = .next (costing 2 s)

/-! ## The undocumented instructions -/

/-- R293, R294: DCP is DEC then CMP, ISB is INC then SBC, of the byte just written. -/
def Obligations.DecrementCompareAndIncrementSubtract : Prop :=
  ∀ (s : State) (z : Byte) (w : Word),
    ModifiesThen (dcpForms z w) s decremented (fun m t => compared t.a m t) ∧
    ModifiesThen (isbForms z w) s incremented subtracted

/-- R295 to R298: SLO, RLA, SRE combine the shifted byte into `A`; RRA adds the rotated byte with the carry the rotate
produced. -/
def Obligations.ShiftThenCombine : Prop :=
  ∀ (s : State) (z : Byte) (w : Word),
    ModifiesThen (sloForms z w) s shiftedLeft (fun m t => loadsA (t.a ||| m) t) ∧
    ModifiesThen (rlaForms z w) s rotatedLeft (fun m t => loadsA (t.a &&& m) t) ∧
    ModifiesThen (sreForms z w) s shiftedRight (fun m t => loadsA (t.a ^^^ m) t) ∧
    ModifiesThen (rraForms z w) s rotatedRight added

/-! ## Frames and whole-machine rules -/

/-- No instruction touches the NMI request, the PPU's counters, flag and background, the cartridge, the recorded fault or the
frame output (R46 to R51, R54, R101). -/
def Obligations.InstructionsLeaveThePpuSideAlone : Prop :=
  ∀ (i : Instr) (s t : State), exec i s = .next t →
    t.nmiRequest = s.nmiRequest ∧ t.ppuCycle = s.ppuCycle ∧ t.ppuLine = s.ppuLine ∧ t.vblank = s.vblank ∧
    t.background = s.background ∧ t.cart = s.cart ∧ t.fault = s.fault ∧ t.frame = s.frame ∧ t.frameNo = s.frameNo

/-- R31: each flag is written only by the mnemonics the table lists for it, PLP and RTI. -/
def Obligations.FlagsChangeOnlyAsListed : Prop :=
  ∀ (i : Instr) (s t : State), exec i s = .next t →
    let m := i.entry.mnemonic
    let znWriters : List Mnemonic :=
      [.lda, .ldx, .ldy, .tax, .txa, .tay, .tya, .tsx, .pla, .adc, .sbc, .cmp, .cpx, .cpy, .and, .ora, .eor, .inc,
       .dec, .inx, .iny, .dex, .dey, .asl, .lsr, .rol, .ror, .lax, .dcp, .isb, .slo, .rla, .sre, .rra, .bit, .plp,
       .rti]
    (m ∉ znWriters → t.flags.n = s.flags.n ∧ t.flags.z = s.flags.z) ∧
    (m ∉ [.adc, .sbc, .isb, .rra, .bit, .clv, .plp, .rti] → t.flags.v = s.flags.v) ∧
    (s.flags.r = true → t.flags.r = true) ∧
    (m ∉ [.php, .brk, .plp, .rti] → t.flags.b = s.flags.b) ∧
    (m ∉ [.sed, .cld, .plp, .rti] → t.flags.d = s.flags.d) ∧
    (m ∉ [.sei, .cli, .brk, .plp, .rti] → t.flags.i = s.flags.i) ∧
    (m ∉ [.adc, .sbc, .cmp, .cpx, .cpy, .asl, .lsr, .rol, .ror, .dcp, .isb, .slo, .rla, .sre, .rra, .clc, .sec, .plp,
      .rti] → t.flags.c = s.flags.c)

/-- R20 to R25: each register is written only by the mnemonics the rules name; a shift writes `A` only in Accumulator mode;
`PC` is written only by control transfers. -/
def Obligations.RegistersChangeOnlyAsListed : Prop :=
  ∀ (i : Instr) (s t : State), exec i s = .next t →
    let m := i.entry.mnemonic
    (m ∉ [.lda, .txa, .tya, .pla, .adc, .sbc, .and, .ora, .eor, .lax, .isb, .slo, .rla, .sre, .rra] →
      i.entry.mode ≠ .accumulator → t.a = s.a) ∧
    (m ∉ [.ldx, .tax, .tsx, .inx, .dex, .lax] → t.x = s.x) ∧
    (m ∉ [.ldy, .tay, .iny, .dey] → t.y = s.y) ∧
    (m ∉ [.txs, .pha, .pla, .php, .plp, .jsr, .rts, .rti, .brk] → t.sp = s.sp) ∧
    (m ∉ [.bcc, .bcs, .beq, .bne, .bmi, .bpl, .bvc, .bvs, .jmp, .jsr, .rts, .rti, .brk] → t.pc = s.pc)

/-- The memory frame of every instruction that stores nothing (R92, R93): every byte on the bus reads as before, the DMA
latch is unchanged, and so is the device side unless the operand, or a byte of JMP's pointer, is read from a device; a jump
reads nothing at its target (R157, R259). -/
def Obligations.NonStoringFormsKeepMemory : Prop :=
  ∀ (i : Instr) (s t : State), exec i s = .next t →
    (i.entry.mnemonic ∉ storing ∨ i.entry.mode = .accumulator) → pushes i.entry.mnemonic = 0 →
    (∀ b : Word, busByte b t = busByte b s) ∧ (∀ k, t.ram.read k = s.ram.read k) ∧ t.dmaLatch = s.dmaLatch ∧
    ((∀ a ∈ dataReads i s, plainAddr a = true) → SameDevices s t)

/-- The memory frame of every form that stores at its effective address (R92, R93, R220): every byte on the bus but the one
it stores to reads as before; the latch and the device side change only when the address selects them. -/
def Obligations.StoringFormsKeepOtherMemory : Prop :=
  ∀ (i : Instr) (s t : State) (m : Addressing), exec i s = .next t →
    i.entry.mnemonic ∈ storing → addressingOf i = some m →
    (∀ b : Word, regionOf b ≠ regionOf (resolve m s).1 → busByte b t = busByte b s) ∧
    (∀ k, regionOf (resolve m s).1 ≠ .ram k → t.ram.read k = s.ram.read k) ∧
    ((resolve m s).1 ≠ 0x4014 → t.dmaLatch = s.dmaLatch) ∧
    (plainAddr (resolve m s).1 = true → SameDevices s t)

/-- The memory frame of the pushing instructions PHA, PHP, JSR and BRK (R190, R195): only the stack bytes at `SP` and below,
as many as are pushed, may change. -/
def Obligations.PushingFormsKeepOtherMemory : Prop :=
  ∀ (i : Instr) (s t : State), exec i s = .next t → pushes i.entry.mnemonic ≠ 0 →
    (∀ b : Word, (∀ k < pushes i.entry.mnemonic, regionOf b ≠ regionOf (0x0100#16 + (s.sp - BitVec.ofNat 8 k).setWidth 16)) →
      busByte b t = busByte b s) ∧
    t.dmaLatch = s.dmaLatch ∧ SameDevices s t
end

