-- ==== Sys2Proof/Laws/Memory.lean ====
section
/-! SUPPORT. The laws of a memory device: a read after a write, the canonical form every operation keeps, and that in
canonical form equal contents are equal lists. -/

namespace Sys2Proof.Memory

/-! ### Reads after writes -/

theorem read_erase (m : Memory) (i j : Nat) :
    (m.erase i).read j = if j = i then Config.unlisted else m.read j := by
  induction m with
  | nil => simp [erase, read]
  | cons c m ih =>
    obtain ⟨k, b⟩ := c
    by_cases hk : k = i
    · simp only [erase, hk, if_true, ih, read]
      by_cases hj : j = i
      · simp [hj]
      · simp [hj, Ne.symm hj]
    · by_cases hj : j = i
      · subst hj; simp [erase, read, hk, ih]
      · simp [erase, read, hk, ih, hj]

theorem read_insertCell (m : Memory) (i j : Nat) (v : Byte) (h : m.all (fun c => c.1 != i)) :
    (m.insertCell i v).read j = if j = i then v else m.read j := by
  induction m with
  | nil =>
    by_cases hj : j = i
    · simp [insertCell, read, hj]
    · simp [insertCell, read, hj, Ne.symm hj]
  | cons c m ih =>
    obtain ⟨k, b⟩ := c
    simp only [List.all_cons, Bool.and_eq_true, bne_iff_ne, ne_eq] at h
    by_cases hlt : i < k
    · by_cases hj : j = i
      · simp [insertCell, read, hlt, hj]
      · simp [insertCell, read, hlt, hj, Ne.symm hj]
    · simp only [insertCell, if_neg hlt, read, ih h.2]
      by_cases hj : j = i
      · subst hj; simp [h.1]
      · simp [hj]

theorem erase_all_ne (m : Memory) (i : Nat) : (m.erase i).all (fun c => c.1 != i) := by
  induction m with
  | nil => rfl
  | cons c m ih =>
    obtain ⟨k, b⟩ := c
    by_cases hk : k = i
    · simpa [erase, hk] using ih
    · simpa [erase, hk] using ih

/-- One read after one write, at any index. -/
theorem read_write (m : Memory) (i j : Nat) (v : Byte) :
    (m.write i v).read j = if j = i then v else m.read j := by
  unfold write
  split
  · next h => rw [read_erase, h]
  · rw [read_insertCell _ _ _ _ (erase_all_ne m i), read_erase]
    by_cases hj : j = i <;> simp [hj]

@[simp] theorem read_write_same (m : Memory) (i : Nat) (v : Byte) : (m.write i v).read i = v := by
  simp [read_write]

theorem read_write_ne (m : Memory) {i j : Nat} (v : Byte) (h : j ≠ i) : (m.write i v).read j = m.read j := by
  simp [read_write, h]

/-! ### The canonical form -/

theorem above_erase {m : Memory} {k : Nat} (i : Nat) (h : above k m = true) : above k (m.erase i) = true := by
  induction m with
  | nil => rfl
  | cons c m ih =>
    obtain ⟨j, b⟩ := c
    simp only [above, List.all_cons, Bool.and_eq_true, decide_eq_true_eq] at h ih ⊢
    by_cases hj : j = i
    · simpa [erase, hj] using ih h.2
    · simp only [erase, if_neg hj, List.all_cons, Bool.and_eq_true, decide_eq_true_eq]
      exact ⟨h.1, ih h.2⟩

theorem above_insertCell {m : Memory} {k i : Nat} (v : Byte) (h : above k m = true) (hi : k < i) :
    above k (m.insertCell i v) = true := by
  induction m with
  | nil => simpa [insertCell, above] using hi
  | cons c m ih =>
    obtain ⟨j, b⟩ := c
    simp only [above, List.all_cons, Bool.and_eq_true, decide_eq_true_eq] at h ih
    by_cases hj : i < j
    · simp only [insertCell, if_pos hj, above, List.all_cons, Bool.and_eq_true, decide_eq_true_eq]
      exact ⟨hi, h.1, h.2⟩
    · simp only [insertCell, if_neg hj, above, List.all_cons, Bool.and_eq_true, decide_eq_true_eq]
      exact ⟨h.1, ih h.2⟩

theorem wf_cons {k : Nat} {b : Byte} {m : Memory} :
    wf ((k, b) :: m) = true ↔ b ≠ Config.unlisted ∧ above k m = true ∧ wf m = true := by
  simp [wf, and_assoc]

theorem wf_erase {m : Memory} (i : Nat) (h : m.wf = true) : (m.erase i).wf = true := by
  induction m with
  | nil => rfl
  | cons c m ih =>
    obtain ⟨k, b⟩ := c
    obtain ⟨hb, ha, hm⟩ := wf_cons.mp h
    by_cases hk : k = i
    · simpa [erase, hk] using ih hm
    · rw [erase, if_neg hk]
      exact wf_cons.mpr ⟨hb, above_erase i ha, ih hm⟩

theorem above_trans {m : Memory} {i k : Nat} (h : above k m = true) (hi : i < k) : above i m = true := by
  simp only [above, List.all_eq_true, decide_eq_true_eq] at h ⊢
  exact fun c hc => Nat.lt_trans hi (h c hc)

theorem wf_insertCell {m : Memory} {i : Nat} {v : Byte} (h : m.wf = true) (hi : m.all (fun c => c.1 != i))
    (hv : v ≠ Config.unlisted) : (m.insertCell i v).wf = true := by
  induction m with
  | nil => simpa [insertCell, wf, above] using hv
  | cons c m ih =>
    obtain ⟨k, b⟩ := c
    obtain ⟨hb, ha, hm⟩ := wf_cons.mp h
    simp only [List.all_cons, Bool.and_eq_true, bne_iff_ne, ne_eq] at hi
    by_cases hlt : i < k
    · rw [insertCell, if_pos hlt]
      refine wf_cons.mpr ⟨hv, ?_, h⟩
      simp only [above, List.all_cons, Bool.and_eq_true, decide_eq_true_eq]
      exact ⟨hlt, above_trans ha hlt⟩
    · rw [insertCell, if_neg hlt]
      exact wf_cons.mpr ⟨hb, above_insertCell v ha (by omega), ih hm hi.2⟩

/-- A write keeps the canonical form. -/
theorem wf_write {m : Memory} (i : Nat) (v : Byte) (h : m.wf = true) : (m.write i v).wf = true := by
  unfold write
  split
  · exact wf_erase i h
  · next hv => exact wf_insertCell (wf_erase i h) (erase_all_ne m i) hv

theorem within_erase {m : Memory} {n : Nat} (i : Nat) (h : m.within n = true) : (m.erase i).within n = true := by
  induction m with
  | nil => rfl
  | cons c m ih =>
    obtain ⟨k, b⟩ := c
    simp only [within, List.all_cons, Bool.and_eq_true, decide_eq_true_eq] at h ih
    by_cases hk : k = i
    · simpa [erase, hk, within] using ih h.2
    · simp only [erase, if_neg hk, within, List.all_cons, Bool.and_eq_true, decide_eq_true_eq]
      exact ⟨h.1, ih h.2⟩

theorem within_insertCell {m : Memory} {n i : Nat} (v : Byte) (h : m.within n = true) (hi : i < n) :
    (m.insertCell i v).within n = true := by
  induction m with
  | nil => simpa [insertCell, within] using hi
  | cons c m ih =>
    obtain ⟨k, b⟩ := c
    simp only [within, List.all_cons, Bool.and_eq_true, decide_eq_true_eq] at h ih
    by_cases hk : i < k
    · simp only [insertCell, if_pos hk, within, List.all_cons, Bool.and_eq_true, decide_eq_true_eq]
      exact ⟨hi, h.1, h.2⟩
    · simp only [insertCell, if_neg hk, within, List.all_cons, Bool.and_eq_true, decide_eq_true_eq]
      exact ⟨h.1, ih h.2⟩

/-- A write inside the device keeps every cell inside it. -/
theorem within_write {m : Memory} {n i : Nat} (v : Byte) (h : m.within n = true) (hi : i < n) :
    (m.write i v).within n = true := by
  unfold write
  split
  · exact within_erase i h
  · exact within_insertCell v (within_erase i h) hi

/-! ### Restriction to a device -/

theorem wf_restrict (n : Nat) (m : Memory) : (m.restrict n).wf = true := by
  induction m with
  | nil => rfl
  | cons c m ih =>
    obtain ⟨k, b⟩ := c
    unfold restrict
    split
    · exact wf_write k b ih
    · exact ih

theorem within_restrict (n : Nat) (m : Memory) : (m.restrict n).within n = true := by
  induction m with
  | nil => rfl
  | cons c m ih =>
    obtain ⟨k, b⟩ := c
    unfold restrict
    split
    · next hk => exact within_write b ih hk
    · exact ih

/-- Restriction keeps every byte the device has. -/
theorem read_restrict (n : Nat) (m : Memory) (i : Nat) :
    (m.restrict n).read i = if i < n then m.read i else Config.unlisted := by
  induction m with
  | nil => simp [restrict, read]
  | cons c m ih =>
    obtain ⟨k, b⟩ := c
    by_cases hk : k < n
    · rw [restrict, if_pos hk, read_write, ih]
      by_cases hi : i = k
      · subst hi; simp [read, hk]
      · simp [read, Ne.symm hi, hi]
    · rw [restrict, if_neg hk, ih]
      by_cases hi : i < n
      · have : k ≠ i := by omega
        simp [hi, read, this]
      · simp [hi]

/-! ### Canonical memories with equal contents are equal -/

theorem read_of_above {m : Memory} {k i : Nat} (h : above k m = true) (hi : i ≤ k) : m.read i = Config.unlisted := by
  induction m with
  | nil => rfl
  | cons c m ih =>
    obtain ⟨j, b⟩ := c
    simp only [above, List.all_cons, Bool.and_eq_true, decide_eq_true_eq] at h ih
    have : j ≠ i := by omega
    simpa [read, this] using ih h.2

theorem eq_of_read_eq {m m' : Memory} (h : m.wf = true) (h' : m'.wf = true) (hr : ∀ i, m.read i = m'.read i) :
    m = m' := by
  induction m generalizing m' with
  | nil =>
    cases m' with
    | nil => rfl
    | cons c m' =>
      obtain ⟨k, b⟩ := c
      exact absurd (by simpa [read] using (hr k).symm) (wf_cons.mp h').1
  | cons c m ih =>
    obtain ⟨k, b⟩ := c
    obtain ⟨hb, ha, hm⟩ := wf_cons.mp h
    cases m' with
    | nil => exact absurd (by simpa [read] using hr k) hb
    | cons c' m' =>
      obtain ⟨k', b'⟩ := c'
      obtain ⟨hb', ha', hm'⟩ := wf_cons.mp h'
      have hk : k = k' := by
        rcases Nat.lt_trichotomy k k' with hlt | heq | hgt
        · have := hr k
          simp only [read, if_true, if_neg (show ¬ k' = k by omega)] at this
          exact absurd (this.trans (read_of_above ha' (Nat.le_of_lt hlt))) hb
        · exact heq
        · have := hr k'
          simp only [read, if_true, if_neg (show ¬ k = k' by omega)] at this
          exact absurd (this.symm.trans (read_of_above ha (Nat.le_of_lt hgt))) hb'
      subst hk
      have hbb : b = b' := by simpa [read] using hr k
      subst hbb
      have htail : m = m' := by
        refine ih hm hm' fun i => ?_
        by_cases hi : k = i
        · subst hi; rw [read_of_above ha (Nat.le_refl _), read_of_above ha' (Nat.le_refl _)]
        · simpa [read, hi] using hr i
      rw [htail]

theorem read_of_within {m : Memory} {n i : Nat} (h : m.within n = true) (hi : n ≤ i) : m.read i = Config.unlisted := by
  induction m with
  | nil => rfl
  | cons c m ih =>
    obtain ⟨j, b⟩ := c
    simp only [within, List.all_cons, Bool.and_eq_true, decide_eq_true_eq] at h ih
    have : j ≠ i := by omega
    simpa [read, this] using ih h.2

/-- A port that answers with a canonical memory of the device's size has its answer taken over unchanged. -/
theorem restrict_eq_self {m : Memory} {n : Nat} (h : m.wf = true) (hn : m.within n = true) : m.restrict n = m := by
  refine eq_of_read_eq (wf_restrict n m) h fun i => ?_
  rw [read_restrict]
  split
  · rfl
  · next hi => exact (read_of_within hn (by omega)).symm

/-! ### Memories made from byte lists -/

theorem above_ofBytesFrom (bs : List Byte) {i k : Nat} (h : k < i) : above k (ofBytesFrom i bs) = true := by
  induction bs generalizing i with
  | nil => rfl
  | cons b bs ih =>
    unfold ofBytesFrom
    split
    · exact ih (by omega)
    · simp only [above, List.all_cons, Bool.and_eq_true, decide_eq_true_eq]
      exact ⟨h, ih (by omega)⟩

theorem wf_ofBytesFrom (bs : List Byte) (i : Nat) : (ofBytesFrom i bs).wf = true := by
  induction bs generalizing i with
  | nil => rfl
  | cons b bs ih =>
    unfold ofBytesFrom
    split
    · exact ih (i + 1)
    · next hb => exact wf_cons.mpr ⟨hb, above_ofBytesFrom bs (by omega), ih (i + 1)⟩

theorem within_ofBytesFrom (bs : List Byte) (i : Nat) : (ofBytesFrom i bs).within (i + bs.length) = true := by
  induction bs generalizing i with
  | nil => rfl
  | cons b bs ih =>
    have h := ih (i + 1)
    rw [show i + 1 + bs.length = i + (b :: bs).length by simp; omega] at h
    unfold ofBytesFrom
    split
    · exact h
    · simp only [within, List.all_cons, Bool.and_eq_true, decide_eq_true_eq] at h ⊢
      exact ⟨by simp, h⟩

theorem read_ofBytesFrom (bs : List Byte) (i j : Nat) :
    (ofBytesFrom i bs).read (i + j) = bs.getD j Config.unlisted := by
  induction bs generalizing i j with
  | nil => simp [ofBytesFrom, read]
  | cons b bs ih =>
    have h0 : (ofBytesFrom (i + 1) bs).read i = Config.unlisted :=
      read_of_above (above_ofBytesFrom bs (Nat.lt_succ_self i)) (Nat.le_refl i)
    unfold ofBytesFrom
    cases j with
    | zero =>
      split
      · next hb => simpa [hb] using h0
      · simp [read]
    | succ j =>
      have h := ih (i + 1) j
      rw [show i + 1 + j = i + (j + 1) by omega] at h
      split
      · simpa using h
      · simpa [read] using h

end Sys2Proof.Memory
end

