-- ==== Sys2Proof/Laws/State.lean ====
section
/-! SUPPORT. What each named update of the state does to each field, one lemma per field, so that no proof unfolds a record
update. -/

namespace Sys2Proof.Machine.State

variable (s : State)

/-! ### setA -/

@[simp] theorem setA_a (v : Byte) : (s.setA v).a = v := rfl
@[simp] theorem setA_x (v : Byte) : (s.setA v).x = s.x := rfl
@[simp] theorem setA_y (v : Byte) : (s.setA v).y = s.y := rfl
@[simp] theorem setA_sp (v : Byte) : (s.setA v).sp = s.sp := rfl
@[simp] theorem setA_pc (v : Byte) : (s.setA v).pc = s.pc := rfl
@[simp] theorem setA_flags (v : Byte) : (s.setA v).flags = s.flags := rfl
@[simp] theorem setA_ram (v : Byte) : (s.setA v).ram = s.ram := rfl
@[simp] theorem setA_dmaLatch (v : Byte) : (s.setA v).dmaLatch = s.dmaLatch := rfl
@[simp] theorem setA_nmiRequest (v : Byte) : (s.setA v).nmiRequest = s.nmiRequest := rfl
@[simp] theorem setA_ppuCycle (v : Byte) : (s.setA v).ppuCycle = s.ppuCycle := rfl
@[simp] theorem setA_ppuLine (v : Byte) : (s.setA v).ppuLine = s.ppuLine := rfl
@[simp] theorem setA_vblank (v : Byte) : (s.setA v).vblank = s.vblank := rfl
@[simp] theorem setA_background (v : Byte) : (s.setA v).background = s.background := rfl
@[simp] theorem setA_vram (v : Byte) : (s.setA v).vram = s.vram := rfl
@[simp] theorem setA_oam (v : Byte) : (s.setA v).oam = s.oam := rfl
@[simp] theorem setA_chr (v : Byte) : (s.setA v).chr = s.chr := rfl
@[simp] theorem setA_port (v : Byte) : (s.setA v).port = s.port := rfl
@[simp] theorem setA_keypad (v : Byte) : (s.setA v).keypad = s.keypad := rfl
@[simp] theorem setA_fault (v : Byte) : (s.setA v).fault = s.fault := rfl
@[simp] theorem setA_cart (v : Byte) : (s.setA v).cart = s.cart := rfl
@[simp] theorem setA_cycles (v : Byte) : (s.setA v).cycles = s.cycles := rfl
@[simp] theorem setA_frame (v : Byte) : (s.setA v).frame = s.frame := rfl
@[simp] theorem setA_frameNo (v : Byte) : (s.setA v).frameNo = s.frameNo := rfl

/-! ### setX -/

@[simp] theorem setX_a (v : Byte) : (s.setX v).a = s.a := rfl
@[simp] theorem setX_x (v : Byte) : (s.setX v).x = v := rfl
@[simp] theorem setX_y (v : Byte) : (s.setX v).y = s.y := rfl
@[simp] theorem setX_sp (v : Byte) : (s.setX v).sp = s.sp := rfl
@[simp] theorem setX_pc (v : Byte) : (s.setX v).pc = s.pc := rfl
@[simp] theorem setX_flags (v : Byte) : (s.setX v).flags = s.flags := rfl
@[simp] theorem setX_ram (v : Byte) : (s.setX v).ram = s.ram := rfl
@[simp] theorem setX_dmaLatch (v : Byte) : (s.setX v).dmaLatch = s.dmaLatch := rfl
@[simp] theorem setX_nmiRequest (v : Byte) : (s.setX v).nmiRequest = s.nmiRequest := rfl
@[simp] theorem setX_ppuCycle (v : Byte) : (s.setX v).ppuCycle = s.ppuCycle := rfl
@[simp] theorem setX_ppuLine (v : Byte) : (s.setX v).ppuLine = s.ppuLine := rfl
@[simp] theorem setX_vblank (v : Byte) : (s.setX v).vblank = s.vblank := rfl
@[simp] theorem setX_background (v : Byte) : (s.setX v).background = s.background := rfl
@[simp] theorem setX_vram (v : Byte) : (s.setX v).vram = s.vram := rfl
@[simp] theorem setX_oam (v : Byte) : (s.setX v).oam = s.oam := rfl
@[simp] theorem setX_chr (v : Byte) : (s.setX v).chr = s.chr := rfl
@[simp] theorem setX_port (v : Byte) : (s.setX v).port = s.port := rfl
@[simp] theorem setX_keypad (v : Byte) : (s.setX v).keypad = s.keypad := rfl
@[simp] theorem setX_fault (v : Byte) : (s.setX v).fault = s.fault := rfl
@[simp] theorem setX_cart (v : Byte) : (s.setX v).cart = s.cart := rfl
@[simp] theorem setX_cycles (v : Byte) : (s.setX v).cycles = s.cycles := rfl
@[simp] theorem setX_frame (v : Byte) : (s.setX v).frame = s.frame := rfl
@[simp] theorem setX_frameNo (v : Byte) : (s.setX v).frameNo = s.frameNo := rfl

/-! ### setY -/

@[simp] theorem setY_a (v : Byte) : (s.setY v).a = s.a := rfl
@[simp] theorem setY_x (v : Byte) : (s.setY v).x = s.x := rfl
@[simp] theorem setY_y (v : Byte) : (s.setY v).y = v := rfl
@[simp] theorem setY_sp (v : Byte) : (s.setY v).sp = s.sp := rfl
@[simp] theorem setY_pc (v : Byte) : (s.setY v).pc = s.pc := rfl
@[simp] theorem setY_flags (v : Byte) : (s.setY v).flags = s.flags := rfl
@[simp] theorem setY_ram (v : Byte) : (s.setY v).ram = s.ram := rfl
@[simp] theorem setY_dmaLatch (v : Byte) : (s.setY v).dmaLatch = s.dmaLatch := rfl
@[simp] theorem setY_nmiRequest (v : Byte) : (s.setY v).nmiRequest = s.nmiRequest := rfl
@[simp] theorem setY_ppuCycle (v : Byte) : (s.setY v).ppuCycle = s.ppuCycle := rfl
@[simp] theorem setY_ppuLine (v : Byte) : (s.setY v).ppuLine = s.ppuLine := rfl
@[simp] theorem setY_vblank (v : Byte) : (s.setY v).vblank = s.vblank := rfl
@[simp] theorem setY_background (v : Byte) : (s.setY v).background = s.background := rfl
@[simp] theorem setY_vram (v : Byte) : (s.setY v).vram = s.vram := rfl
@[simp] theorem setY_oam (v : Byte) : (s.setY v).oam = s.oam := rfl
@[simp] theorem setY_chr (v : Byte) : (s.setY v).chr = s.chr := rfl
@[simp] theorem setY_port (v : Byte) : (s.setY v).port = s.port := rfl
@[simp] theorem setY_keypad (v : Byte) : (s.setY v).keypad = s.keypad := rfl
@[simp] theorem setY_fault (v : Byte) : (s.setY v).fault = s.fault := rfl
@[simp] theorem setY_cart (v : Byte) : (s.setY v).cart = s.cart := rfl
@[simp] theorem setY_cycles (v : Byte) : (s.setY v).cycles = s.cycles := rfl
@[simp] theorem setY_frame (v : Byte) : (s.setY v).frame = s.frame := rfl
@[simp] theorem setY_frameNo (v : Byte) : (s.setY v).frameNo = s.frameNo := rfl

/-! ### setSp -/

@[simp] theorem setSp_a (v : Byte) : (s.setSp v).a = s.a := rfl
@[simp] theorem setSp_x (v : Byte) : (s.setSp v).x = s.x := rfl
@[simp] theorem setSp_y (v : Byte) : (s.setSp v).y = s.y := rfl
@[simp] theorem setSp_sp (v : Byte) : (s.setSp v).sp = v := rfl
@[simp] theorem setSp_pc (v : Byte) : (s.setSp v).pc = s.pc := rfl
@[simp] theorem setSp_flags (v : Byte) : (s.setSp v).flags = s.flags := rfl
@[simp] theorem setSp_ram (v : Byte) : (s.setSp v).ram = s.ram := rfl
@[simp] theorem setSp_dmaLatch (v : Byte) : (s.setSp v).dmaLatch = s.dmaLatch := rfl
@[simp] theorem setSp_nmiRequest (v : Byte) : (s.setSp v).nmiRequest = s.nmiRequest := rfl
@[simp] theorem setSp_ppuCycle (v : Byte) : (s.setSp v).ppuCycle = s.ppuCycle := rfl
@[simp] theorem setSp_ppuLine (v : Byte) : (s.setSp v).ppuLine = s.ppuLine := rfl
@[simp] theorem setSp_vblank (v : Byte) : (s.setSp v).vblank = s.vblank := rfl
@[simp] theorem setSp_background (v : Byte) : (s.setSp v).background = s.background := rfl
@[simp] theorem setSp_vram (v : Byte) : (s.setSp v).vram = s.vram := rfl
@[simp] theorem setSp_oam (v : Byte) : (s.setSp v).oam = s.oam := rfl
@[simp] theorem setSp_chr (v : Byte) : (s.setSp v).chr = s.chr := rfl
@[simp] theorem setSp_port (v : Byte) : (s.setSp v).port = s.port := rfl
@[simp] theorem setSp_keypad (v : Byte) : (s.setSp v).keypad = s.keypad := rfl
@[simp] theorem setSp_fault (v : Byte) : (s.setSp v).fault = s.fault := rfl
@[simp] theorem setSp_cart (v : Byte) : (s.setSp v).cart = s.cart := rfl
@[simp] theorem setSp_cycles (v : Byte) : (s.setSp v).cycles = s.cycles := rfl
@[simp] theorem setSp_frame (v : Byte) : (s.setSp v).frame = s.frame := rfl
@[simp] theorem setSp_frameNo (v : Byte) : (s.setSp v).frameNo = s.frameNo := rfl

/-! ### setPc -/

@[simp] theorem setPc_a (v : Word) : (s.setPc v).a = s.a := rfl
@[simp] theorem setPc_x (v : Word) : (s.setPc v).x = s.x := rfl
@[simp] theorem setPc_y (v : Word) : (s.setPc v).y = s.y := rfl
@[simp] theorem setPc_sp (v : Word) : (s.setPc v).sp = s.sp := rfl
@[simp] theorem setPc_pc (v : Word) : (s.setPc v).pc = v := rfl
@[simp] theorem setPc_flags (v : Word) : (s.setPc v).flags = s.flags := rfl
@[simp] theorem setPc_ram (v : Word) : (s.setPc v).ram = s.ram := rfl
@[simp] theorem setPc_dmaLatch (v : Word) : (s.setPc v).dmaLatch = s.dmaLatch := rfl
@[simp] theorem setPc_nmiRequest (v : Word) : (s.setPc v).nmiRequest = s.nmiRequest := rfl
@[simp] theorem setPc_ppuCycle (v : Word) : (s.setPc v).ppuCycle = s.ppuCycle := rfl
@[simp] theorem setPc_ppuLine (v : Word) : (s.setPc v).ppuLine = s.ppuLine := rfl
@[simp] theorem setPc_vblank (v : Word) : (s.setPc v).vblank = s.vblank := rfl
@[simp] theorem setPc_background (v : Word) : (s.setPc v).background = s.background := rfl
@[simp] theorem setPc_vram (v : Word) : (s.setPc v).vram = s.vram := rfl
@[simp] theorem setPc_oam (v : Word) : (s.setPc v).oam = s.oam := rfl
@[simp] theorem setPc_chr (v : Word) : (s.setPc v).chr = s.chr := rfl
@[simp] theorem setPc_port (v : Word) : (s.setPc v).port = s.port := rfl
@[simp] theorem setPc_keypad (v : Word) : (s.setPc v).keypad = s.keypad := rfl
@[simp] theorem setPc_fault (v : Word) : (s.setPc v).fault = s.fault := rfl
@[simp] theorem setPc_cart (v : Word) : (s.setPc v).cart = s.cart := rfl
@[simp] theorem setPc_cycles (v : Word) : (s.setPc v).cycles = s.cycles := rfl
@[simp] theorem setPc_frame (v : Word) : (s.setPc v).frame = s.frame := rfl
@[simp] theorem setPc_frameNo (v : Word) : (s.setPc v).frameNo = s.frameNo := rfl

/-! ### setFlags -/

@[simp] theorem setFlags_a (f : Flags) : (s.setFlags f).a = s.a := rfl
@[simp] theorem setFlags_x (f : Flags) : (s.setFlags f).x = s.x := rfl
@[simp] theorem setFlags_y (f : Flags) : (s.setFlags f).y = s.y := rfl
@[simp] theorem setFlags_sp (f : Flags) : (s.setFlags f).sp = s.sp := rfl
@[simp] theorem setFlags_pc (f : Flags) : (s.setFlags f).pc = s.pc := rfl
@[simp] theorem setFlags_flags (f : Flags) : (s.setFlags f).flags = f := rfl
@[simp] theorem setFlags_ram (f : Flags) : (s.setFlags f).ram = s.ram := rfl
@[simp] theorem setFlags_dmaLatch (f : Flags) : (s.setFlags f).dmaLatch = s.dmaLatch := rfl
@[simp] theorem setFlags_nmiRequest (f : Flags) : (s.setFlags f).nmiRequest = s.nmiRequest := rfl
@[simp] theorem setFlags_ppuCycle (f : Flags) : (s.setFlags f).ppuCycle = s.ppuCycle := rfl
@[simp] theorem setFlags_ppuLine (f : Flags) : (s.setFlags f).ppuLine = s.ppuLine := rfl
@[simp] theorem setFlags_vblank (f : Flags) : (s.setFlags f).vblank = s.vblank := rfl
@[simp] theorem setFlags_background (f : Flags) : (s.setFlags f).background = s.background := rfl
@[simp] theorem setFlags_vram (f : Flags) : (s.setFlags f).vram = s.vram := rfl
@[simp] theorem setFlags_oam (f : Flags) : (s.setFlags f).oam = s.oam := rfl
@[simp] theorem setFlags_chr (f : Flags) : (s.setFlags f).chr = s.chr := rfl
@[simp] theorem setFlags_port (f : Flags) : (s.setFlags f).port = s.port := rfl
@[simp] theorem setFlags_keypad (f : Flags) : (s.setFlags f).keypad = s.keypad := rfl
@[simp] theorem setFlags_fault (f : Flags) : (s.setFlags f).fault = s.fault := rfl
@[simp] theorem setFlags_cart (f : Flags) : (s.setFlags f).cart = s.cart := rfl
@[simp] theorem setFlags_cycles (f : Flags) : (s.setFlags f).cycles = s.cycles := rfl
@[simp] theorem setFlags_frame (f : Flags) : (s.setFlags f).frame = s.frame := rfl
@[simp] theorem setFlags_frameNo (f : Flags) : (s.setFlags f).frameNo = s.frameNo := rfl

/-! ### setZN -/

@[simp] theorem setZN_a (v : Byte) : (s.setZN v).a = s.a := rfl
@[simp] theorem setZN_x (v : Byte) : (s.setZN v).x = s.x := rfl
@[simp] theorem setZN_y (v : Byte) : (s.setZN v).y = s.y := rfl
@[simp] theorem setZN_sp (v : Byte) : (s.setZN v).sp = s.sp := rfl
@[simp] theorem setZN_pc (v : Byte) : (s.setZN v).pc = s.pc := rfl
@[simp] theorem setZN_flags (v : Byte) : (s.setZN v).flags = Machine.setZN v s.flags := rfl
@[simp] theorem setZN_ram (v : Byte) : (s.setZN v).ram = s.ram := rfl
@[simp] theorem setZN_dmaLatch (v : Byte) : (s.setZN v).dmaLatch = s.dmaLatch := rfl
@[simp] theorem setZN_nmiRequest (v : Byte) : (s.setZN v).nmiRequest = s.nmiRequest := rfl
@[simp] theorem setZN_ppuCycle (v : Byte) : (s.setZN v).ppuCycle = s.ppuCycle := rfl
@[simp] theorem setZN_ppuLine (v : Byte) : (s.setZN v).ppuLine = s.ppuLine := rfl
@[simp] theorem setZN_vblank (v : Byte) : (s.setZN v).vblank = s.vblank := rfl
@[simp] theorem setZN_background (v : Byte) : (s.setZN v).background = s.background := rfl
@[simp] theorem setZN_vram (v : Byte) : (s.setZN v).vram = s.vram := rfl
@[simp] theorem setZN_oam (v : Byte) : (s.setZN v).oam = s.oam := rfl
@[simp] theorem setZN_chr (v : Byte) : (s.setZN v).chr = s.chr := rfl
@[simp] theorem setZN_port (v : Byte) : (s.setZN v).port = s.port := rfl
@[simp] theorem setZN_keypad (v : Byte) : (s.setZN v).keypad = s.keypad := rfl
@[simp] theorem setZN_fault (v : Byte) : (s.setZN v).fault = s.fault := rfl
@[simp] theorem setZN_cart (v : Byte) : (s.setZN v).cart = s.cart := rfl
@[simp] theorem setZN_cycles (v : Byte) : (s.setZN v).cycles = s.cycles := rfl
@[simp] theorem setZN_frame (v : Byte) : (s.setZN v).frame = s.frame := rfl
@[simp] theorem setZN_frameNo (v : Byte) : (s.setZN v).frameNo = s.frameNo := rfl

/-! ### charge -/

@[simp] theorem charge_a (n : Nat) : (s.charge n).a = s.a := rfl
@[simp] theorem charge_x (n : Nat) : (s.charge n).x = s.x := rfl
@[simp] theorem charge_y (n : Nat) : (s.charge n).y = s.y := rfl
@[simp] theorem charge_sp (n : Nat) : (s.charge n).sp = s.sp := rfl
@[simp] theorem charge_pc (n : Nat) : (s.charge n).pc = s.pc := rfl
@[simp] theorem charge_flags (n : Nat) : (s.charge n).flags = s.flags := rfl
@[simp] theorem charge_ram (n : Nat) : (s.charge n).ram = s.ram := rfl
@[simp] theorem charge_dmaLatch (n : Nat) : (s.charge n).dmaLatch = s.dmaLatch := rfl
@[simp] theorem charge_nmiRequest (n : Nat) : (s.charge n).nmiRequest = s.nmiRequest := rfl
@[simp] theorem charge_ppuCycle (n : Nat) : (s.charge n).ppuCycle = s.ppuCycle := rfl
@[simp] theorem charge_ppuLine (n : Nat) : (s.charge n).ppuLine = s.ppuLine := rfl
@[simp] theorem charge_vblank (n : Nat) : (s.charge n).vblank = s.vblank := rfl
@[simp] theorem charge_background (n : Nat) : (s.charge n).background = s.background := rfl
@[simp] theorem charge_vram (n : Nat) : (s.charge n).vram = s.vram := rfl
@[simp] theorem charge_oam (n : Nat) : (s.charge n).oam = s.oam := rfl
@[simp] theorem charge_chr (n : Nat) : (s.charge n).chr = s.chr := rfl
@[simp] theorem charge_port (n : Nat) : (s.charge n).port = s.port := rfl
@[simp] theorem charge_keypad (n : Nat) : (s.charge n).keypad = s.keypad := rfl
@[simp] theorem charge_fault (n : Nat) : (s.charge n).fault = s.fault := rfl
@[simp] theorem charge_cart (n : Nat) : (s.charge n).cart = s.cart := rfl
@[simp] theorem charge_cycles (n : Nat) : (s.charge n).cycles = s.cycles + n := rfl
@[simp] theorem charge_frame (n : Nat) : (s.charge n).frame = s.frame := rfl
@[simp] theorem charge_frameNo (n : Nat) : (s.charge n).frameNo = s.frameNo := rfl

/-! ### afterPort -/

@[simp] theorem afterPort_a (p : PortState) (m : PpuMem) : (s.afterPort p m).a = s.a := rfl
@[simp] theorem afterPort_x (p : PortState) (m : PpuMem) : (s.afterPort p m).x = s.x := rfl
@[simp] theorem afterPort_y (p : PortState) (m : PpuMem) : (s.afterPort p m).y = s.y := rfl
@[simp] theorem afterPort_sp (p : PortState) (m : PpuMem) : (s.afterPort p m).sp = s.sp := rfl
@[simp] theorem afterPort_pc (p : PortState) (m : PpuMem) : (s.afterPort p m).pc = s.pc := rfl
@[simp] theorem afterPort_flags (p : PortState) (m : PpuMem) : (s.afterPort p m).flags = s.flags := rfl
@[simp] theorem afterPort_ram (p : PortState) (m : PpuMem) : (s.afterPort p m).ram = s.ram := rfl
@[simp] theorem afterPort_dmaLatch (p : PortState) (m : PpuMem) : (s.afterPort p m).dmaLatch = s.dmaLatch := rfl
@[simp] theorem afterPort_nmiRequest (p : PortState) (m : PpuMem) : (s.afterPort p m).nmiRequest = s.nmiRequest := rfl
@[simp] theorem afterPort_ppuCycle (p : PortState) (m : PpuMem) : (s.afterPort p m).ppuCycle = s.ppuCycle := rfl
@[simp] theorem afterPort_ppuLine (p : PortState) (m : PpuMem) : (s.afterPort p m).ppuLine = s.ppuLine := rfl
@[simp] theorem afterPort_vblank (p : PortState) (m : PpuMem) : (s.afterPort p m).vblank = s.vblank := rfl
@[simp] theorem afterPort_background (p : PortState) (m : PpuMem) : (s.afterPort p m).background = s.background := rfl
@[simp] theorem afterPort_vram (p : PortState) (m : PpuMem) :
    (s.afterPort p m).vram = m.vram.restrict Config.vramSize := rfl
@[simp] theorem afterPort_oam (p : PortState) (m : PpuMem) :
    (s.afterPort p m).oam = m.oam.restrict Config.oamSize := rfl
@[simp] theorem afterPort_chr (p : PortState) (m : PpuMem) :
    (s.afterPort p m).chr = if s.cart.chrIsRam then m.chr.cells.restrict s.cart.chrSize else s.chr := rfl
@[simp] theorem afterPort_port (p : PortState) (m : PpuMem) : (s.afterPort p m).port = p := rfl
@[simp] theorem afterPort_keypad (p : PortState) (m : PpuMem) : (s.afterPort p m).keypad = s.keypad := rfl
@[simp] theorem afterPort_fault (p : PortState) (m : PpuMem) : (s.afterPort p m).fault = s.fault := rfl
@[simp] theorem afterPort_cart (p : PortState) (m : PpuMem) : (s.afterPort p m).cart = s.cart := rfl
@[simp] theorem afterPort_cycles (p : PortState) (m : PpuMem) : (s.afterPort p m).cycles = s.cycles := rfl
@[simp] theorem afterPort_frame (p : PortState) (m : PpuMem) : (s.afterPort p m).frame = s.frame := rfl
@[simp] theorem afterPort_frameNo (p : PortState) (m : PpuMem) : (s.afterPort p m).frameNo = s.frameNo := rfl

/-! ### The character buffer the collaborators see -/

@[simp] theorem chrBuffer_cells : s.chrBuffer.cells = s.chr := rfl
@[simp] theorem chrBuffer_size : s.chrBuffer.size = s.cart.chrSize := rfl
@[simp] theorem ppuMem_chr : s.ppuMem.chr = s.chrBuffer := rfl

end Sys2Proof.Machine.State
end

