-- ==== Sys2Proof/Laws/Ops.lean ====
section
/-! SUPPORT. What the bus, the stack and the interrupt entry can do, said once for each. -/

namespace Sys2Proof.Machine

/-! ### What an access may touch -/

/-- `t` is `s` but for what a device read may change (R74): the collaborators' states and the PPU memories. -/
def ReadFrame (s t : State) : Prop :=
  ∃ p v c o k, t = { s with port := p, vram := v, chr := c, oam := o, keypad := k }

/-- `t` is `s` but for what one bus write may change (R81): the above, work RAM and the DMA latch. -/
def WriteFrame (s t : State) : Prop :=
  ∃ r d p v c o k, t = { s with ram := r, dmaLatch := d, port := p, vram := v, chr := c, oam := o, keypad := k }

theorem ReadFrame.refl (s : State) : ReadFrame s s := ⟨s.port, s.vram, s.chr, s.oam, s.keypad, rfl⟩

theorem ReadFrame.trans {s t u : State} (h : ReadFrame s t) (h' : ReadFrame t u) : ReadFrame s u := by
  obtain ⟨_, _, _, _, _, rfl⟩ := h
  obtain ⟨p, v, c, o, k, rfl⟩ := h'
  exact ⟨p, v, c, o, k, rfl⟩

theorem ReadFrame.toWrite {s t : State} (h : ReadFrame s t) : WriteFrame s t := by
  obtain ⟨p, v, c, o, k, rfl⟩ := h
  exact ⟨s.ram, s.dmaLatch, p, v, c, o, k, rfl⟩

theorem WriteFrame.trans {s t u : State} (h : WriteFrame s t) (h' : WriteFrame t u) : WriteFrame s u := by
  obtain ⟨_, _, _, _, _, _, _, rfl⟩ := h
  obtain ⟨r, d, p, v, c, o, k, rfl⟩ := h'
  exact ⟨r, d, p, v, c, o, k, rfl⟩

/-- A bus read touches only the collaborators' side (R74). -/
theorem busRead_frame (addr : Word) (s : State) : ReadFrame s (busRead addr s).2 := by
  unfold busRead
  split
  · exact ReadFrame.refl s
  · exact ⟨_, _, _, _, _, rfl⟩
  · exact ReadFrame.refl s
  · exact ⟨s.port, s.vram, s.chr, s.oam, _, rfl⟩
  · exact ReadFrame.refl s
  · exact ReadFrame.refl s

/-- A bus write touches only the addressed device (R74, R81). -/
theorem busWrite_frame (addr : Word) (v : Byte) (s : State) : WriteFrame s (busWrite addr v s) := by
  unfold busWrite
  split
  · exact ⟨_, s.dmaLatch, s.port, s.vram, s.chr, s.oam, s.keypad, rfl⟩
  · exact ⟨s.ram, s.dmaLatch, _, _, _, _, s.keypad, rfl⟩
  · exact ⟨s.ram, v, s.port, s.vram, s.chr, s.oam, s.keypad, rfl⟩
  · exact ⟨s.ram, s.dmaLatch, s.port, s.vram, s.chr, s.oam, _, rfl⟩
  · exact (ReadFrame.refl s).toWrite
  · exact (ReadFrame.refl s).toWrite

/-- With `ROM_WRITE` as the spec has it, a write to program ROM changes nothing (R85, D16). -/
@[simp] theorem romWriteAttempt_eq (offset : Nat) (s : State) : romWriteAttempt offset s = s := rfl

/-- With `ROM_WRITE` as the spec has it, no instruction ends in a raise. -/
@[simp] theorem endInstruction_eq (s t : State) : endInstruction s t = .ok t := rfl

/-! ### The address decoder -/

theorem regionOf_ram {addr : Word} (h : addr.toNat < Config.ramWindowEnd) :
    regionOf addr = .ram (addr.toNat % Config.ramSize) := by
  simp [regionOf, h]

theorem regionOf_rom {addr : Word} (h : Config.romBase ≤ addr.toNat) :
    regionOf addr = .rom (addr.toNat - Config.romBase) := by
  simp only [regionOf, Config.ramWindowEnd, Config.ppuWindowEnd, Config.dmaAddr, Config.keypadAddr,
    Config.romBase] at h ⊢
  rw [if_neg (by omega), if_neg (by omega), if_neg (by omega), if_neg (by omega), if_pos h]

/-- Every RAM index the decoder produces lies in the device (R44). -/
theorem regionOf_ram_lt {addr : Word} {i : Nat} (h : regionOf addr = .ram i) : i < Config.ramSize := by
  unfold regionOf at h
  split at h
  · cases h; exact Nat.mod_lt _ (by decide)
  · repeat' (first | split at h | cases h)

/-- A read of plain memory returns `busByte` and changes nothing (R74). -/
theorem busRead_plain {addr : Word} {s : State} (h : plainAddr addr = true) :
    busRead addr s = (busByte addr s, s) := by
  cases hr : regionOf addr <;> simp [plainAddr, hr] at h <;> simp [busRead, busByte, hr]

theorem busRead_ram {addr : Word} {s : State} (h : addr.toNat < Config.ramWindowEnd) :
    busRead addr s = (s.ram.read (addr.toNat % Config.ramSize), s) := by
  simp [busRead, regionOf_ram h]

theorem busWrite_ram {addr : Word} {v : Byte} {s : State} (h : addr.toNat < Config.ramWindowEnd) :
    busWrite addr v s = { s with ram := s.ram.write (addr.toNat % Config.ramSize) v } := by
  simp [busWrite, regionOf_ram h]

theorem busRead_rom {addr : Word} {s : State} (h : Config.romBase ≤ addr.toNat) :
    busRead addr s = (s.cart.romByte (addr.toNat - Config.romBase), s) := by
  simp [busRead, regionOf_rom h]

/-- Page 0 is work RAM (R86). -/
theorem busRead_zeroPage (z : Byte) (s : State) : busRead (zext16 z) s = (s.ram.read z.toNat, s) := by
  have hz : z.toNat < 256 := z.isLt
  rw [busRead_ram (by rw [zext16_toNat]; simp only [Config.ramWindowEnd]; omega), zext16_toNat,
    Nat.mod_eq_of_lt (by simp only [Config.ramSize]; omega)]

/-- The vectors lie in the ROM window (R88), so reading one changes nothing. -/
theorem readVector_rom {addr : Word} {s : State} (h : Config.romBase ≤ addr.toNat)
    (h' : Config.romBase ≤ (addr + 1).toNat) :
    readVector addr s = (wordOf (s.cart.romByte ((addr + 1).toNat - Config.romBase))
      (s.cart.romByte (addr.toNat - Config.romBase)), s) := by
  simp only [readVector, busRead_rom h, busRead_rom h']

/-! ### The stack -/

theorem stackAddr_toNat (sp : Byte) : (stackAddr sp).toNat = 0x100 + sp.toNat := by
  revert sp; decide

/-- A push is a RAM write in page 1 (R190). -/
theorem push_eq (v : Byte) (s : State) :
    push v s = { s with ram := s.ram.write (0x100 + s.sp.toNat) v, sp := s.sp - 1 } := by
  have hlt : s.sp.toNat < 256 := s.sp.isLt
  have h : (stackAddr s.sp).toNat < Config.ramWindowEnd := by
    rw [stackAddr_toNat]; simp only [Config.ramWindowEnd]; omega
  rw [push, busWrite_ram h, stackAddr_toNat, Nat.mod_eq_of_lt (by simp only [Config.ramSize]; omega)]
  rfl

/-- A pop is a RAM read in page 1 (R190). -/
theorem pop_eq (s : State) :
    pop s = (s.ram.read (0x100 + (s.sp + 1).toNat), { s with sp := s.sp + 1 }) := by
  have hlt : (s.sp + 1).toNat < 256 := (s.sp + 1).isLt
  have h : (stackAddr (s.sp + 1)).toNat < Config.ramWindowEnd := by
    rw [stackAddr_toNat]; simp only [Config.ramWindowEnd]; omega
  rw [pop, busRead_ram h, stackAddr_toNat, Nat.mod_eq_of_lt (by simp only [Config.ramSize]; omega)]
  rfl

theorem pushWord_eq (w : Word) (s : State) :
    pushWord w s = { s with
      ram := (s.ram.write (0x100 + s.sp.toNat) (hiByte w)).write (0x100 + (s.sp - 1).toNat) (loByte w)
      sp := s.sp - 1 - 1 } := by
  simp [pushWord, push_eq]

theorem popWord_eq (s : State) :
    popWord s = (wordOf (s.ram.read (0x100 + (s.sp + 1 + 1).toNat)) (s.ram.read (0x100 + (s.sp + 1).toNat)),
      { s with sp := s.sp + 1 + 1 }) := by
  simp [popWord, pop_eq]

theorem pushFrame_eq (ret : Word) (p : Byte) (s : State) :
    pushFrame ret p s = { s with
      ram := ((s.ram.write (0x100 + s.sp.toNat) (hiByte ret)).write (0x100 + (s.sp - 1).toNat)
        (loByte ret)).write (0x100 + (s.sp - 1 - 1).toNat) p
      sp := s.sp - 1 - 1 - 1 } := by
  simp [pushFrame, pushWord_eq, push_eq]

/-! ### Interrupt entry and return -/

/-- All an interrupt entry does (R264, R330), for a vector in the ROM window. -/
theorem enterInterrupt_eq {ret : Word} {p : Byte} {vector : Word} {s : State} (h : Config.romBase ≤ vector.toNat)
    (h' : Config.romBase ≤ (vector + 1).toNat) :
    enterInterrupt ret p vector s = { s with
      ram := ((s.ram.write (0x100 + s.sp.toNat) (hiByte ret)).write (0x100 + (s.sp - 1).toNat)
        (loByte ret)).write (0x100 + (s.sp - 1 - 1).toNat) p
      sp := s.sp - 1 - 1 - 1
      flags := { s.flags with i := true }
      pc := wordOf (s.cart.romByte ((vector + 1).toNat - Config.romBase))
        (s.cart.romByte (vector.toNat - Config.romBase)) } := by
  simp [enterInterrupt, pushFrame_eq, readVector_rom h h', State.setFlags, State.setPc]

/-- All a return from interrupt does (R262). -/
theorem returnFromInterrupt_eq (s : State) :
    returnFromInterrupt s = { s with
      flags := setP (s.ram.read (0x100 + (s.sp + 1).toNat))
      pc := wordOf (s.ram.read (0x100 + (s.sp + 1 + 1 + 1).toNat)) (s.ram.read (0x100 + (s.sp + 1 + 1).toNat))
      sp := s.sp + 1 + 1 + 1 } := by
  simp [returnFromInterrupt, pop_eq, popWord_eq, State.setFlags, State.setPc]

/-! ### Canonical memories -/

theorem State.MemoriesOk.afterPort {s : State} (h : s.MemoriesOk) (p : PortState) (m : PpuMem) :
    (s.afterPort p m).MemoriesOk where
  ram := h.ram
  vram := ⟨Memory.wf_restrict _ _, Memory.within_restrict _ _⟩
  oam := ⟨Memory.wf_restrict _ _, Memory.within_restrict _ _⟩
  chr := by
    simp only [State.afterPort_chr, State.afterPort_cart]
    split
    · exact ⟨Memory.wf_restrict _ _, Memory.within_restrict _ _⟩
    · exact h.chr
  prg := h.prg

theorem State.MemoriesOk.busRead {s : State} (h : s.MemoriesOk) (addr : Word) :
    (Machine.busRead addr s).2.MemoriesOk := by
  unfold Machine.busRead
  split
  · exact h
  · exact h.afterPort _ _
  · exact h
  · exact ⟨h.ram, h.vram, h.oam, h.chr, h.prg⟩
  · exact h
  · exact h

theorem State.MemoriesOk.busWrite {s : State} (h : s.MemoriesOk) (addr : Word) (v : Byte) :
    (Machine.busWrite addr v s).MemoriesOk := by
  unfold Machine.busWrite
  split
  · next i hi =>
    exact ⟨⟨Memory.wf_write i v h.ram.1, Memory.within_write v h.ram.2 (regionOf_ram_lt hi)⟩,
      h.vram, h.oam, h.chr, h.prg⟩
  · exact h.afterPort _ _
  · exact ⟨h.ram, h.vram, h.oam, h.chr, h.prg⟩
  · exact ⟨h.ram, h.vram, h.oam, h.chr, h.prg⟩
  · exact h
  · exact h

/-- Memories are canonical in any state with the same memories and cartridge. -/
theorem State.MemoriesOk.congr {s t : State} (h : s.MemoriesOk) (hr : t.ram = s.ram) (hv : t.vram = s.vram)
    (ho : t.oam = s.oam) (hc : t.chr = s.chr) (hk : t.cart = s.cart) : t.MemoriesOk :=
  ⟨hr ▸ h.ram, hv ▸ h.vram, ho ▸ h.oam, by rw [hc, hk]; exact h.chr, by rw [hk]; exact h.prg⟩

theorem State.MemoriesOk.setFlags {s : State} (h : s.MemoriesOk) (f : Flags) : (s.setFlags f).MemoriesOk :=
  h.congr rfl rfl rfl rfl rfl

theorem State.MemoriesOk.push {s : State} (h : s.MemoriesOk) (v : Byte) : (Machine.push v s).MemoriesOk :=
  (h.busWrite (stackAddr s.sp) v).congr rfl rfl rfl rfl rfl

theorem State.MemoriesOk.pop {s : State} (h : s.MemoriesOk) : (Machine.pop s).2.MemoriesOk := by
  rw [pop_eq]
  exact h.congr rfl rfl rfl rfl rfl

end Sys2Proof.Machine
end

