-- ==== Sys2Proof/Laws/Operands.lean ====
section
/-! SUPPORT. What the addressing modes and the shared operand forms can do, said once for each. -/

namespace Sys2Proof.Machine

theorem zeroPagePointer_eq (z : Byte) (s : State) :
    zeroPagePointer z s = (wordOf (s.ram.read (z + 1).toNat) (s.ram.read z.toNat), s) := by
  simp [zeroPagePointer, busRead_zeroPage]

theorem samePagePointer_frame (ptr : Word) (s : State) : ReadFrame s (samePagePointer ptr s).2 :=
  (busRead_frame _ s).trans (busRead_frame _ _)

/-- Resolution writes no register and no memory of the CPU's (R150 to R163); only JMP's pointer may be read from a device. -/
theorem resolve_frame (m : Addressing) (s : State) : ReadFrame s (resolve m s).2 := by
  cases m with
  | indirectAbsolute w => exact samePagePointer_frame w s
  | preIndexedIndirect z => rw [resolve, zeroPagePointer_eq]; exact ReadFrame.refl s
  | postIndexedIndirect z => simp only [resolve, zeroPagePointer_eq]; exact ReadFrame.refl s
  | _ => exact ReadFrame.refl s

/-- Every mode but JMP's indirect one reads plain memory only, so resolving changes nothing. -/
theorem resolve_state {m : Addressing} (s : State) (h : ∀ w, m ≠ .indirectAbsolute w) : (resolve m s).2 = s := by
  cases m with
  | indirectAbsolute w => exact absurd rfl (h w)
  | preIndexedIndirect z => rw [resolve, zeroPagePointer_eq]
  | postIndexedIndirect z => simp only [resolve, zeroPagePointer_eq]
  | _ => rfl

@[simp] theorem readPenalty_eq_zero (src : Source) (s : State) : readPenalty src s = 0 := by
  cases src with
  | imm v => rfl
  | mem m =>
    simp only [readPenalty]
    split
    · rfl
    · split <;> rfl

theorem readOperand_frame (src : Source) (s : State) : ReadFrame s (readOperand src s).2 := by
  cases src with
  | imm v => exact ReadFrame.refl s
  | mem m => exact (resolve_frame m s).trans (busRead_frame _ _)

theorem State.MemoriesOk.resolve {s : State} (h : s.MemoriesOk) (m : Addressing) :
    (Machine.resolve m s).2.MemoriesOk := by
  cases m with
  | indirectAbsolute w => exact (h.busRead _).busRead _
  | preIndexedIndirect z => exact (h.busRead _).busRead _
  | postIndexedIndirect z => exact (h.busRead _).busRead _
  | _ => exact h

theorem State.MemoriesOk.readOperand {s : State} (h : s.MemoriesOk) (src : Source) :
    (Machine.readOperand src s).2.MemoriesOk := by
  cases src with
  | imm v => exact h
  | mem m => exact (h.resolve m).busRead _

/-- One read and one write at the same address (R220), said of the whole state. -/
theorem readModifyWrite_frame (f : Byte → Flags → Byte × Flags) (m : Addressing) (s : State) :
    WriteFrame (s.setFlags (readModifyWrite f m s).2.flags) (readModifyWrite f m s).2 := by
  obtain ⟨_, _, _, _, _, h⟩ := (resolve_frame m s).trans (busRead_frame (resolve m s).1 _)
  simp only [readModifyWrite]
  rw [h]
  obtain ⟨r, d, p, v, c, o, k, hw⟩ := busWrite_frame (resolve m s).1
    (f (busRead (resolve m s).1 (resolve m s).2).1 s.flags).1
    (State.setFlags _ (f (busRead (resolve m s).1 (resolve m s).2).1 s.flags).2)
  rw [hw]
  exact ⟨r, d, p, v, c, o, k, rfl⟩

theorem State.MemoriesOk.readModifyWrite {s : State} (h : s.MemoriesOk) (f : Byte → Flags → Byte × Flags)
    (m : Addressing) : (Machine.readModifyWrite f m s).2.MemoriesOk := by
  have hread := (h.resolve m).busRead (Machine.resolve m s).1
  exact (hread.setFlags _).busWrite _ _

end Sys2Proof.Machine
end

