-- ==== Sys2Proof/Laws/PerInstr.lean ====
section
/-! SUPPORT. Per-instruction facts about the encoding: an instruction has as many bytes as its mode says (spec 30_encoding
R124), and its first byte selects a format with that many operand bytes (R125). -/

namespace Sys2Proof

/-- The operand bytes a format still needs (R124). -/
def Format.operandBytes : Format → Nat
  | .f1 _ => 0
  | .f2 _ => 1
  | .f3 _ => 2

namespace Laws.OperandBytes

/-- The bytes of `i`, the mode of its table row and the format its first byte selects agree. -/
def Statement (i : Instr) : Prop :=
  (encode i).length = 1 + i.entry.mode.operandBytes ∧
    (encode i).head?.bind (fun op => (decodeOpcode op).map Format.operandBytes) = some i.entry.mode.operandBytes

theorem brk : Statement (.brk) := ⟨rfl, rfl⟩
theorem oraIzx (z : Byte) : Statement (.oraIzx z) := ⟨rfl, rfl⟩
theorem sloIzx (z : Byte) : Statement (.sloIzx z) := ⟨rfl, rfl⟩
theorem oraZp (z : Byte) : Statement (.oraZp z) := ⟨rfl, rfl⟩
theorem aslZp (z : Byte) : Statement (.aslZp z) := ⟨rfl, rfl⟩
theorem sloZp (z : Byte) : Statement (.sloZp z) := ⟨rfl, rfl⟩
theorem php : Statement (.php) := ⟨rfl, rfl⟩
theorem oraImm (v : Byte) : Statement (.oraImm v) := ⟨rfl, rfl⟩
theorem aslAcc : Statement (.aslAcc) := ⟨rfl, rfl⟩
theorem oraAbs (w : Word) : Statement (.oraAbs w) := ⟨rfl, rfl⟩
theorem aslAbs (w : Word) : Statement (.aslAbs w) := ⟨rfl, rfl⟩
theorem sloAbs (w : Word) : Statement (.sloAbs w) := ⟨rfl, rfl⟩
theorem bpl (d : Byte) : Statement (.bpl d) := ⟨rfl, rfl⟩
theorem oraIzy (z : Byte) : Statement (.oraIzy z) := ⟨rfl, rfl⟩
theorem sloIzy (z : Byte) : Statement (.sloIzy z) := ⟨rfl, rfl⟩
theorem oraZpx (z : Byte) : Statement (.oraZpx z) := ⟨rfl, rfl⟩
theorem aslZpx (z : Byte) : Statement (.aslZpx z) := ⟨rfl, rfl⟩
theorem sloZpx (z : Byte) : Statement (.sloZpx z) := ⟨rfl, rfl⟩
theorem clc : Statement (.clc) := ⟨rfl, rfl⟩
theorem oraAby (w : Word) : Statement (.oraAby w) := ⟨rfl, rfl⟩
theorem sloAby (w : Word) : Statement (.sloAby w) := ⟨rfl, rfl⟩
theorem oraAbx (w : Word) : Statement (.oraAbx w) := ⟨rfl, rfl⟩
theorem aslAbx (w : Word) : Statement (.aslAbx w) := ⟨rfl, rfl⟩
theorem sloAbx (w : Word) : Statement (.sloAbx w) := ⟨rfl, rfl⟩
theorem jsr (w : Word) : Statement (.jsr w) := ⟨rfl, rfl⟩
theorem andIzx (z : Byte) : Statement (.andIzx z) := ⟨rfl, rfl⟩
theorem rlaIzx (z : Byte) : Statement (.rlaIzx z) := ⟨rfl, rfl⟩
theorem bitZp (z : Byte) : Statement (.bitZp z) := ⟨rfl, rfl⟩
theorem andZp (z : Byte) : Statement (.andZp z) := ⟨rfl, rfl⟩
theorem rolZp (z : Byte) : Statement (.rolZp z) := ⟨rfl, rfl⟩
theorem rlaZp (z : Byte) : Statement (.rlaZp z) := ⟨rfl, rfl⟩
theorem plp : Statement (.plp) := ⟨rfl, rfl⟩
theorem andImm (v : Byte) : Statement (.andImm v) := ⟨rfl, rfl⟩
theorem rolAcc : Statement (.rolAcc) := ⟨rfl, rfl⟩
theorem bitAbs (w : Word) : Statement (.bitAbs w) := ⟨rfl, rfl⟩
theorem andAbs (w : Word) : Statement (.andAbs w) := ⟨rfl, rfl⟩
theorem rolAbs (w : Word) : Statement (.rolAbs w) := ⟨rfl, rfl⟩
theorem rlaAbs (w : Word) : Statement (.rlaAbs w) := ⟨rfl, rfl⟩
theorem bmi (d : Byte) : Statement (.bmi d) := ⟨rfl, rfl⟩
theorem andIzy (z : Byte) : Statement (.andIzy z) := ⟨rfl, rfl⟩
theorem rlaIzy (z : Byte) : Statement (.rlaIzy z) := ⟨rfl, rfl⟩
theorem andZpx (z : Byte) : Statement (.andZpx z) := ⟨rfl, rfl⟩
theorem rolZpx (z : Byte) : Statement (.rolZpx z) := ⟨rfl, rfl⟩
theorem rlaZpx (z : Byte) : Statement (.rlaZpx z) := ⟨rfl, rfl⟩
theorem sec : Statement (.sec) := ⟨rfl, rfl⟩
theorem andAby (w : Word) : Statement (.andAby w) := ⟨rfl, rfl⟩
theorem rlaAby (w : Word) : Statement (.rlaAby w) := ⟨rfl, rfl⟩
theorem andAbx (w : Word) : Statement (.andAbx w) := ⟨rfl, rfl⟩
theorem rolAbx (w : Word) : Statement (.rolAbx w) := ⟨rfl, rfl⟩
theorem rlaAbx (w : Word) : Statement (.rlaAbx w) := ⟨rfl, rfl⟩
theorem rti : Statement (.rti) := ⟨rfl, rfl⟩
theorem eorIzx (z : Byte) : Statement (.eorIzx z) := ⟨rfl, rfl⟩
theorem sreIzx (z : Byte) : Statement (.sreIzx z) := ⟨rfl, rfl⟩
theorem eorZp (z : Byte) : Statement (.eorZp z) := ⟨rfl, rfl⟩
theorem lsrZp (z : Byte) : Statement (.lsrZp z) := ⟨rfl, rfl⟩
theorem sreZp (z : Byte) : Statement (.sreZp z) := ⟨rfl, rfl⟩
theorem pha : Statement (.pha) := ⟨rfl, rfl⟩
theorem eorImm (v : Byte) : Statement (.eorImm v) := ⟨rfl, rfl⟩
theorem lsrAcc : Statement (.lsrAcc) := ⟨rfl, rfl⟩
theorem jmpAbs (w : Word) : Statement (.jmpAbs w) := ⟨rfl, rfl⟩
theorem eorAbs (w : Word) : Statement (.eorAbs w) := ⟨rfl, rfl⟩
theorem lsrAbs (w : Word) : Statement (.lsrAbs w) := ⟨rfl, rfl⟩
theorem sreAbs (w : Word) : Statement (.sreAbs w) := ⟨rfl, rfl⟩
theorem bvc (d : Byte) : Statement (.bvc d) := ⟨rfl, rfl⟩
theorem eorIzy (z : Byte) : Statement (.eorIzy z) := ⟨rfl, rfl⟩
theorem sreIzy (z : Byte) : Statement (.sreIzy z) := ⟨rfl, rfl⟩
theorem eorZpx (z : Byte) : Statement (.eorZpx z) := ⟨rfl, rfl⟩
theorem lsrZpx (z : Byte) : Statement (.lsrZpx z) := ⟨rfl, rfl⟩
theorem sreZpx (z : Byte) : Statement (.sreZpx z) := ⟨rfl, rfl⟩
theorem cli : Statement (.cli) := ⟨rfl, rfl⟩
theorem eorAby (w : Word) : Statement (.eorAby w) := ⟨rfl, rfl⟩
theorem sreAby (w : Word) : Statement (.sreAby w) := ⟨rfl, rfl⟩
theorem eorAbx (w : Word) : Statement (.eorAbx w) := ⟨rfl, rfl⟩
theorem lsrAbx (w : Word) : Statement (.lsrAbx w) := ⟨rfl, rfl⟩
theorem sreAbx (w : Word) : Statement (.sreAbx w) := ⟨rfl, rfl⟩
theorem rts : Statement (.rts) := ⟨rfl, rfl⟩
theorem adcIzx (z : Byte) : Statement (.adcIzx z) := ⟨rfl, rfl⟩
theorem rraIzx (z : Byte) : Statement (.rraIzx z) := ⟨rfl, rfl⟩
theorem adcZp (z : Byte) : Statement (.adcZp z) := ⟨rfl, rfl⟩
theorem rorZp (z : Byte) : Statement (.rorZp z) := ⟨rfl, rfl⟩
theorem rraZp (z : Byte) : Statement (.rraZp z) := ⟨rfl, rfl⟩
theorem pla : Statement (.pla) := ⟨rfl, rfl⟩
theorem adcImm (v : Byte) : Statement (.adcImm v) := ⟨rfl, rfl⟩
theorem rorAcc : Statement (.rorAcc) := ⟨rfl, rfl⟩
theorem jmpInd (w : Word) : Statement (.jmpInd w) := ⟨rfl, rfl⟩
theorem adcAbs (w : Word) : Statement (.adcAbs w) := ⟨rfl, rfl⟩
theorem rorAbs (w : Word) : Statement (.rorAbs w) := ⟨rfl, rfl⟩
theorem rraAbs (w : Word) : Statement (.rraAbs w) := ⟨rfl, rfl⟩
theorem bvs (d : Byte) : Statement (.bvs d) := ⟨rfl, rfl⟩
theorem adcIzy (z : Byte) : Statement (.adcIzy z) := ⟨rfl, rfl⟩
theorem rraIzy (z : Byte) : Statement (.rraIzy z) := ⟨rfl, rfl⟩
theorem adcZpx (z : Byte) : Statement (.adcZpx z) := ⟨rfl, rfl⟩
theorem rorZpx (z : Byte) : Statement (.rorZpx z) := ⟨rfl, rfl⟩
theorem rraZpx (z : Byte) : Statement (.rraZpx z) := ⟨rfl, rfl⟩
theorem sei : Statement (.sei) := ⟨rfl, rfl⟩
theorem adcAby (w : Word) : Statement (.adcAby w) := ⟨rfl, rfl⟩
theorem rraAby (w : Word) : Statement (.rraAby w) := ⟨rfl, rfl⟩
theorem adcAbx (w : Word) : Statement (.adcAbx w) := ⟨rfl, rfl⟩
theorem rorAbx (w : Word) : Statement (.rorAbx w) := ⟨rfl, rfl⟩
theorem rraAbx (w : Word) : Statement (.rraAbx w) := ⟨rfl, rfl⟩
theorem staIzx (z : Byte) : Statement (.staIzx z) := ⟨rfl, rfl⟩
theorem saxIzx (z : Byte) : Statement (.saxIzx z) := ⟨rfl, rfl⟩
theorem styZp (z : Byte) : Statement (.styZp z) := ⟨rfl, rfl⟩
theorem staZp (z : Byte) : Statement (.staZp z) := ⟨rfl, rfl⟩
theorem stxZp (z : Byte) : Statement (.stxZp z) := ⟨rfl, rfl⟩
theorem saxZp (z : Byte) : Statement (.saxZp z) := ⟨rfl, rfl⟩
theorem dey : Statement (.dey) := ⟨rfl, rfl⟩
theorem txa : Statement (.txa) := ⟨rfl, rfl⟩
theorem styAbs (w : Word) : Statement (.styAbs w) := ⟨rfl, rfl⟩
theorem staAbs (w : Word) : Statement (.staAbs w) := ⟨rfl, rfl⟩
theorem stxAbs (w : Word) : Statement (.stxAbs w) := ⟨rfl, rfl⟩
theorem saxAbs (w : Word) : Statement (.saxAbs w) := ⟨rfl, rfl⟩
theorem bcc (d : Byte) : Statement (.bcc d) := ⟨rfl, rfl⟩
theorem staIzy (z : Byte) : Statement (.staIzy z) := ⟨rfl, rfl⟩
theorem styZpx (z : Byte) : Statement (.styZpx z) := ⟨rfl, rfl⟩
theorem staZpx (z : Byte) : Statement (.staZpx z) := ⟨rfl, rfl⟩
theorem stxZpy (z : Byte) : Statement (.stxZpy z) := ⟨rfl, rfl⟩
theorem saxZpy (z : Byte) : Statement (.saxZpy z) := ⟨rfl, rfl⟩
theorem tya : Statement (.tya) := ⟨rfl, rfl⟩
theorem staAby (w : Word) : Statement (.staAby w) := ⟨rfl, rfl⟩
theorem txs : Statement (.txs) := ⟨rfl, rfl⟩
theorem staAbx (w : Word) : Statement (.staAbx w) := ⟨rfl, rfl⟩
theorem ldyImm (v : Byte) : Statement (.ldyImm v) := ⟨rfl, rfl⟩
theorem ldaIzx (z : Byte) : Statement (.ldaIzx z) := ⟨rfl, rfl⟩
theorem ldxImm (v : Byte) : Statement (.ldxImm v) := ⟨rfl, rfl⟩
theorem laxIzx (z : Byte) : Statement (.laxIzx z) := ⟨rfl, rfl⟩
theorem ldyZp (z : Byte) : Statement (.ldyZp z) := ⟨rfl, rfl⟩
theorem ldaZp (z : Byte) : Statement (.ldaZp z) := ⟨rfl, rfl⟩
theorem ldxZp (z : Byte) : Statement (.ldxZp z) := ⟨rfl, rfl⟩
theorem laxZp (z : Byte) : Statement (.laxZp z) := ⟨rfl, rfl⟩
theorem tay : Statement (.tay) := ⟨rfl, rfl⟩
theorem ldaImm (v : Byte) : Statement (.ldaImm v) := ⟨rfl, rfl⟩
theorem tax : Statement (.tax) := ⟨rfl, rfl⟩
theorem ldyAbs (w : Word) : Statement (.ldyAbs w) := ⟨rfl, rfl⟩
theorem ldaAbs (w : Word) : Statement (.ldaAbs w) := ⟨rfl, rfl⟩
theorem ldxAbs (w : Word) : Statement (.ldxAbs w) := ⟨rfl, rfl⟩
theorem laxAbs (w : Word) : Statement (.laxAbs w) := ⟨rfl, rfl⟩
theorem bcs (d : Byte) : Statement (.bcs d) := ⟨rfl, rfl⟩
theorem ldaIzy (z : Byte) : Statement (.ldaIzy z) := ⟨rfl, rfl⟩
theorem laxIzy (z : Byte) : Statement (.laxIzy z) := ⟨rfl, rfl⟩
theorem ldyZpx (z : Byte) : Statement (.ldyZpx z) := ⟨rfl, rfl⟩
theorem ldaZpx (z : Byte) : Statement (.ldaZpx z) := ⟨rfl, rfl⟩
theorem ldxZpy (z : Byte) : Statement (.ldxZpy z) := ⟨rfl, rfl⟩
theorem laxZpy (z : Byte) : Statement (.laxZpy z) := ⟨rfl, rfl⟩
theorem clv : Statement (.clv) := ⟨rfl, rfl⟩
theorem ldaAby (w : Word) : Statement (.ldaAby w) := ⟨rfl, rfl⟩
theorem tsx : Statement (.tsx) := ⟨rfl, rfl⟩
theorem ldyAbx (w : Word) : Statement (.ldyAbx w) := ⟨rfl, rfl⟩
theorem ldaAbx (w : Word) : Statement (.ldaAbx w) := ⟨rfl, rfl⟩
theorem ldxAby (w : Word) : Statement (.ldxAby w) := ⟨rfl, rfl⟩
theorem laxAby (w : Word) : Statement (.laxAby w) := ⟨rfl, rfl⟩
theorem cpyImm (v : Byte) : Statement (.cpyImm v) := ⟨rfl, rfl⟩
theorem cmpIzx (z : Byte) : Statement (.cmpIzx z) := ⟨rfl, rfl⟩
theorem dcpIzx (z : Byte) : Statement (.dcpIzx z) := ⟨rfl, rfl⟩
theorem cpyZp (z : Byte) : Statement (.cpyZp z) := ⟨rfl, rfl⟩
theorem cmpZp (z : Byte) : Statement (.cmpZp z) := ⟨rfl, rfl⟩
theorem decZp (z : Byte) : Statement (.decZp z) := ⟨rfl, rfl⟩
theorem dcpZp (z : Byte) : Statement (.dcpZp z) := ⟨rfl, rfl⟩
theorem iny : Statement (.iny) := ⟨rfl, rfl⟩
theorem cmpImm (v : Byte) : Statement (.cmpImm v) := ⟨rfl, rfl⟩
theorem dex : Statement (.dex) := ⟨rfl, rfl⟩
theorem cpyAbs (w : Word) : Statement (.cpyAbs w) := ⟨rfl, rfl⟩
theorem cmpAbs (w : Word) : Statement (.cmpAbs w) := ⟨rfl, rfl⟩
theorem decAbs (w : Word) : Statement (.decAbs w) := ⟨rfl, rfl⟩
theorem dcpAbs (w : Word) : Statement (.dcpAbs w) := ⟨rfl, rfl⟩
theorem bne (d : Byte) : Statement (.bne d) := ⟨rfl, rfl⟩
theorem cmpIzy (z : Byte) : Statement (.cmpIzy z) := ⟨rfl, rfl⟩
theorem dcpIzy (z : Byte) : Statement (.dcpIzy z) := ⟨rfl, rfl⟩
theorem cmpZpx (z : Byte) : Statement (.cmpZpx z) := ⟨rfl, rfl⟩
theorem decZpx (z : Byte) : Statement (.decZpx z) := ⟨rfl, rfl⟩
theorem dcpZpx (z : Byte) : Statement (.dcpZpx z) := ⟨rfl, rfl⟩
theorem cld : Statement (.cld) := ⟨rfl, rfl⟩
theorem cmpAby (w : Word) : Statement (.cmpAby w) := ⟨rfl, rfl⟩
theorem dcpAby (w : Word) : Statement (.dcpAby w) := ⟨rfl, rfl⟩
theorem cmpAbx (w : Word) : Statement (.cmpAbx w) := ⟨rfl, rfl⟩
theorem decAbx (w : Word) : Statement (.decAbx w) := ⟨rfl, rfl⟩
theorem dcpAbx (w : Word) : Statement (.dcpAbx w) := ⟨rfl, rfl⟩
theorem cpxImm (v : Byte) : Statement (.cpxImm v) := ⟨rfl, rfl⟩
theorem sbcIzx (z : Byte) : Statement (.sbcIzx z) := ⟨rfl, rfl⟩
theorem isbIzx (z : Byte) : Statement (.isbIzx z) := ⟨rfl, rfl⟩
theorem cpxZp (z : Byte) : Statement (.cpxZp z) := ⟨rfl, rfl⟩
theorem sbcZp (z : Byte) : Statement (.sbcZp z) := ⟨rfl, rfl⟩
theorem incZp (z : Byte) : Statement (.incZp z) := ⟨rfl, rfl⟩
theorem isbZp (z : Byte) : Statement (.isbZp z) := ⟨rfl, rfl⟩
theorem inx : Statement (.inx) := ⟨rfl, rfl⟩
theorem sbcImm (v : Byte) : Statement (.sbcImm v) := ⟨rfl, rfl⟩
theorem nop : Statement (.nop) := ⟨rfl, rfl⟩
theorem cpxAbs (w : Word) : Statement (.cpxAbs w) := ⟨rfl, rfl⟩
theorem sbcAbs (w : Word) : Statement (.sbcAbs w) := ⟨rfl, rfl⟩
theorem incAbs (w : Word) : Statement (.incAbs w) := ⟨rfl, rfl⟩
theorem isbAbs (w : Word) : Statement (.isbAbs w) := ⟨rfl, rfl⟩
theorem beq (d : Byte) : Statement (.beq d) := ⟨rfl, rfl⟩
theorem sbcIzy (z : Byte) : Statement (.sbcIzy z) := ⟨rfl, rfl⟩
theorem isbIzy (z : Byte) : Statement (.isbIzy z) := ⟨rfl, rfl⟩
theorem sbcZpx (z : Byte) : Statement (.sbcZpx z) := ⟨rfl, rfl⟩
theorem incZpx (z : Byte) : Statement (.incZpx z) := ⟨rfl, rfl⟩
theorem isbZpx (z : Byte) : Statement (.isbZpx z) := ⟨rfl, rfl⟩
theorem sed : Statement (.sed) := ⟨rfl, rfl⟩
theorem sbcAby (w : Word) : Statement (.sbcAby w) := ⟨rfl, rfl⟩
theorem isbAby (w : Word) : Statement (.isbAby w) := ⟨rfl, rfl⟩
theorem sbcAbx (w : Word) : Statement (.sbcAbx w) := ⟨rfl, rfl⟩
theorem incAbx (w : Word) : Statement (.incAbx w) := ⟨rfl, rfl⟩
theorem isbAbx (w : Word) : Statement (.isbAbx w) := ⟨rfl, rfl⟩

end Laws.OperandBytes

end Sys2Proof
end

