-- ==== Sys2Proof/Laws/Ppu.lean ====
section
/-! SUPPORT. What a PPU tick and the DMA transfer can do, said once for each. -/

namespace Sys2Proof.Machine

/-- How the ticks are grouped does not matter (R347). -/
theorem ppuRun_add (m n : Nat) (s : State) : ppuRun (m + n) s = ppuRun n (ppuRun m s) := by
  induction m generalizing s with
  | zero => simp [ppuRun]
  | succ m ih => rw [Nat.succ_add, ppuRun, ppuRun, ih]

theorem ppuRun_succ (n : Nat) (s : State) : ppuRun (n + 1) s = ppuTick (ppuRun n s) := by
  rw [ppuRun_add]; rfl

/-- `t` is `s` but for what a PPU tick may change (R345, R346): never a register, a memory or a latch of the CPU's side. -/
def TickFrame (s t : State) : Prop :=
  ∃ q cyc ln vb bg p fr n, t = { s with
    nmiRequest := q, ppuCycle := cyc, ppuLine := ln, vblank := vb, background := bg, port := p, frame := fr, frameNo := n }

theorem TickFrame.refl (s : State) : TickFrame s s :=
  ⟨s.nmiRequest, s.ppuCycle, s.ppuLine, s.vblank, s.background, s.port, s.frame, s.frameNo, rfl⟩

theorem TickFrame.trans {s t u : State} (h : TickFrame s t) (h' : TickFrame t u) : TickFrame s u := by
  obtain ⟨_, _, _, _, _, _, _, _, rfl⟩ := h
  obtain ⟨q, cyc, ln, vb, bg, p, fr, n, rfl⟩ := h'
  exact ⟨q, cyc, ln, vb, bg, p, fr, n, rfl⟩

theorem buildRow_frame (s : State) : TickFrame s (buildRow s) := by
  unfold buildRow
  split
  · exact ⟨s.nmiRequest, s.ppuCycle, s.ppuLine, s.vblank, _, s.port, s.frame, s.frameNo, rfl⟩
  · exact TickFrame.refl s

theorem beginVblank_frame (s : State) : TickFrame s (beginVblank s) := by
  unfold beginVblank
  split
  · exact ⟨_, s.ppuCycle, s.ppuLine, _, s.background, _, s.frame, s.frameNo, rfl⟩
  · exact TickFrame.refl s

theorem endFrame_frame (s : State) : TickFrame s (endFrame s) := by
  unfold endFrame
  split
  · exact ⟨s.nmiRequest, s.ppuCycle, _, _, s.background, _, _, _, rfl⟩
  · exact TickFrame.refl s

theorem lineBoundary_frame (s : State) : TickFrame s (lineBoundary s) := by
  refine TickFrame.trans ⟨s.nmiRequest, _, _, s.vblank, _, s.port, s.frame, s.frameNo, rfl⟩
    (((buildRow_frame _).trans (beginVblank_frame _)).trans (endFrame_frame _))

theorem ppuTick_frame (s : State) : TickFrame s (ppuTick s) := by
  unfold ppuTick
  split
  · exact ⟨s.nmiRequest, _, s.ppuLine, s.vblank, s.background, s.port, s.frame, s.frameNo, rfl⟩
  · exact lineBoundary_frame s

theorem ppuRun_frame (n : Nat) (s : State) : TickFrame s (ppuRun n s) := by
  induction n generalizing s with
  | zero => exact TickFrame.refl s
  | succ n ih => exact (ppuTick_frame s).trans (ih _)

/-- Ticks inside a scanline only count (R345). -/
theorem ppuRun_within_line {n : Nat} {s : State} (h : s.ppuCycle + n < Config.cyclesPerLine) :
    ppuRun n s = { s with ppuCycle := s.ppuCycle + n } := by
  induction n generalizing s with
  | zero => rfl
  | succ n ih =>
    have h1 : s.ppuCycle + 1 < Config.cyclesPerLine := by omega
    rw [ppuRun, ppuTick, if_pos h1, ih (by simpa [Nat.add_assoc, Nat.add_comm 1 n] using h)]
    simp [Nat.add_assoc, Nat.add_comm 1 n]

/-! ### The DMA transfer -/

/-- What `OAM` holds after the first `n` copies (R360). -/
theorem read_copyToOam (ram oam : Memory) (base n i : Nat) :
    (copyToOam ram base n oam).read i = if i < n then ram.read (base + i) else oam.read i := by
  induction n with
  | zero => simp [copyToOam]
  | succ n ih =>
    rw [copyToOam, Memory.read_write, ih]
    by_cases hi : i = n
    · simp [hi]
    · by_cases hlt : i < n
      · simp [hi, hlt, Nat.lt_succ_of_lt hlt]
      · simp [hi, hlt, show ¬ i < n + 1 by omega]

theorem wf_copyToOam {ram oam : Memory} {base n : Nat} (hn : n ≤ Config.oamSize)
    (h : oam.wf = true ∧ oam.within Config.oamSize = true) :
    (copyToOam ram base n oam).wf = true ∧ (copyToOam ram base n oam).within Config.oamSize = true := by
  induction n with
  | zero => exact h
  | succ n ih =>
    have h' := ih (by omega)
    exact ⟨Memory.wf_write _ _ h'.1, Memory.within_write _ h'.2 (by omega)⟩

theorem State.MemoriesOk.dmaTransfer {s : State} (h : s.MemoriesOk) (page : Byte) :
    (Machine.dmaTransfer page s).MemoriesOk :=
  ⟨h.ram, h.vram, wf_copyToOam (Nat.le_refl _) h.oam, h.chr, h.prg⟩

end Sys2Proof.Machine
end

