-- ==== Sys2Proof/Tests/Slice0.lean ====
section
/-! SUPPORT. Tests: the well-formedness smoke tests, words decoded by hand from the encodings of spec rules, vectors of
spec 95_test_vectors (their numbers are the spec's), and a witness for the hypotheses of every obligation. -/

open Sys2Proof Sys2Proof.Machine Sys2Proof.Claims

namespace Sys2Proof.Tests

/-- The common start state of spec 95 (conventions): the state after reset, with the bytes `rom` (offsets in the ROM
window) and `ram` placed. -/
def start (pc : Word) (rom ram : Memory) (a x y sp p : Byte) : State :=
  { State.reset with
    pc := pc, ram := ram, a := a, x := x, y := y, sp := sp, flags := setP p
    cart := { Cartridge.blank with prg := rom } }

/-- The end state of a vector of spec 95: the six registers, the cost, the DMA latch and all of RAM. -/
def ends (o : Progress) (a x y sp : Byte) (pc : Word) (p : Byte) (cycles : Nat) (latch : Byte) (ram : Memory) : Bool :=
  match o with
  | .ok t => decide (t.a = a ∧ t.x = x ∧ t.y = y ∧ t.sp = sp ∧ t.pc = pc ∧ getP t.flags = p ∧ t.cycles = cycles ∧
      t.dmaLatch = latch ∧ t.ram = ram)
  | _ => false

/-! ## Vectors of spec 95, part 2 -/

/-- V5 (R160, R171): `A1 FE`. -/
theorem test_V5_lda : ends (cpuStep (start 0x8000 [(0x0000, 0xA1), (0x0001, 0xFE)] [(0x0000, 0x02), (0x00FF, 0x34), (0x0100, 0x07), (0x0234, 0x5A), (0x0734, 0xA5)] 0x00 0x01 0x00 0xFD 0x34))
    0x5A 0x01 0x00 0xFD 0x8002 0x34 6 0x00 [(0x0000, 0x02), (0x00FF, 0x34), (0x0100, 0x07), (0x0234, 0x5A), (0x0734, 0xA5)] = true := by decide

/-- V6 (R161, R171): `B1 FF`. -/
theorem test_V6_lda : ends (cpuStep (start 0x8000 [(0x0000, 0xB1), (0x0001, 0xFF)] [(0x0000, 0x02), (0x00FF, 0xF8), (0x0100, 0x07), (0x0308, 0x81)] 0x00 0x00 0x10 0xFD 0x34))
    0x81 0x00 0x10 0xFD 0x8002 0xB4 5 0x00 [(0x0000, 0x02), (0x00FF, 0xF8), (0x0100, 0x07), (0x0308, 0x81)] = true := by decide

/-- V7 (R156, R172): `B6 F0`. -/
theorem test_V7_ldx : ends (cpuStep (start 0x8000 [(0x0000, 0xB6), (0x0001, 0xF0)] [(0x0110, 0x33)] 0x00 0x00 0x20 0xFD 0x34))
    0x00 0x00 0x20 0xFD 0x8002 0x36 4 0x00 [(0x0110, 0x33)] = true := by decide

/-- V8 (R84, R173): `AC 00 50`. -/
theorem test_V8_ldy : ends (cpuStep (start 0x8000 [(0x0000, 0xAC), (0x0002, 0x50)] [] 0x00 0x00 0x77 0xFD 0x34))
    0x00 0x00 0x00 0xFD 0x8003 0x36 4 0x00 [] = true := by decide

/-- V9 (R86, R174): `8D 00 08`. -/
theorem test_V9_sta : ends (cpuStep (start 0x8000 [(0x0000, 0x8D), (0x0002, 0x08)] [] 0xAB 0x00 0x00 0xFD 0xB6))
    0xAB 0x00 0x00 0xFD 0x8003 0xB6 4 0x00 [(0x0000, 0xAB)] = true := by decide

/-- V11 (R87, R174): `8D 14 40`. -/
theorem test_V11_sta : ends (cpuStep (start 0x8000 [(0x0000, 0x8D), (0x0001, 0x14), (0x0002, 0x40)] [] 0x02 0x00 0x00 0xFD 0x34))
    0x02 0x00 0x00 0xFD 0x8003 0x34 4 0x02 [] = true := by decide

/-- V12 (R156, R175): `96 FF`. -/
theorem test_V12_stx : ends (cpuStep (start 0x8000 [(0x0000, 0x96), (0x0001, 0xFF)] [(0x0001, 0x55)] 0x00 0x00 0x02 0xFD 0x34))
    0x00 0x00 0x02 0xFD 0x8002 0x34 4 0x00 [] = true := by decide

/-- V13 (R176): `94 10`. -/
theorem test_V13_sty : ends (cpuStep (start 0x8000 [(0x0000, 0x94), (0x0001, 0x10)] [(0x0015, 0x01)] 0x00 0x05 0x80 0xFD 0x34))
    0x00 0x05 0x80 0xFD 0x8002 0x34 4 0x00 [(0x0015, 0x80)] = true := by decide

/-- V14 (R177): `AA`. -/
theorem test_V14_tax : ends (cpuStep (start 0x8000 [(0x0000, 0xAA)] [] 0x00 0x11 0x00 0xFD 0x34))
    0x00 0x00 0x00 0xFD 0x8001 0x36 2 0x00 [] = true := by decide

/-- V15 (R178): `8A`. -/
theorem test_V15_txa : ends (cpuStep (start 0x8000 [(0x0000, 0x8A)] [] 0x00 0xF0 0x00 0xFD 0x34))
    0xF0 0xF0 0x00 0xFD 0x8001 0xB4 2 0x00 [] = true := by decide

/-- V16 (R179): `A8`. -/
theorem test_V16_tay : ends (cpuStep (start 0x8000 [(0x0000, 0xA8)] [] 0x7F 0x00 0x00 0xFD 0xB6))
    0x7F 0x00 0x7F 0xFD 0x8001 0x34 2 0x00 [] = true := by decide

/-- V17 (R180): `98`. -/
theorem test_V17_tya : ends (cpuStep (start 0x8000 [(0x0000, 0x98)] [] 0x01 0x00 0x00 0xFD 0x34))
    0x00 0x00 0x00 0xFD 0x8001 0x36 2 0x00 [] = true := by decide

/-- V18 (R181): `BA`. -/
theorem test_V18_tsx : ends (cpuStep (start 0x8000 [(0x0000, 0xBA)] [] 0x00 0x00 0x00 0xFD 0x34))
    0x00 0xFD 0x00 0xFD 0x8001 0xB4 2 0x00 [] = true := by decide

/-- V19 (R182): `9A`. -/
theorem test_V19_txs : ends (cpuStep (start 0x8000 [(0x0000, 0x9A)] [] 0x00 0x00 0x00 0xFD 0x34))
    0x00 0x00 0x00 0x00 0x8001 0x34 2 0x00 [] = true := by decide

/-- V20 (R190, R191): `48`. -/
theorem test_V20_pha : ends (cpuStep (start 0x8000 [(0x0000, 0x48)] [] 0x42 0x00 0x00 0x00 0x34))
    0x42 0x00 0x00 0xFF 0x8001 0x34 3 0x00 [(0x0100, 0x42)] = true := by decide

/-- V21 (R190, R192): `68`. -/
theorem test_V21_pla : ends (cpuStep (start 0x8000 [(0x0000, 0x68)] [] 0x00 0x00 0x00 0xFF 0x34))
    0x00 0x00 0x00 0x00 0x8001 0x36 4 0x00 [] = true := by decide

/-- V22 (R192): `68`. -/
theorem test_V22_pla : ends (cpuStep (start 0x8000 [(0x0000, 0x68)] [(0x01FD, 0x80)] 0x00 0x00 0x00 0xFC 0x34))
    0x80 0x00 0x00 0xFD 0x8001 0xB4 4 0x00 [(0x01FD, 0x80)] = true := by decide

/-- V23 (R193): `08`. -/
theorem test_V23_php : ends (cpuStep (start 0x8000 [(0x0000, 0x08)] [] 0x00 0x00 0x00 0xFD 0xE3))
    0x00 0x00 0x00 0xFC 0x8001 0xF3 3 0x00 [(0x01FD, 0xF3)] = true := by decide

/-- V24 (R194, R35): `28`. -/
theorem test_V24_plp : ends (cpuStep (start 0x8000 [(0x0000, 0x28)] [] 0x00 0x00 0x00 0xFC 0xFF))
    0x00 0x00 0x00 0xFD 0x8001 0x20 4 0x00 [] = true := by decide

/-- V25 (R194): `28`. -/
theorem test_V25_plp : ends (cpuStep (start 0x8000 [(0x0000, 0x28)] [(0x01FD, 0xCF)] 0x00 0x00 0x00 0xFC 0x34))
    0x00 0x00 0x00 0xFD 0x8001 0xEF 4 0x00 [(0x01FD, 0xCF)] = true := by decide

/-- V30 (R200): `69 50`. -/
theorem test_V30_adc : ends (cpuStep (start 0x8000 [(0x0000, 0x69), (0x0001, 0x50)] [] 0x50 0x00 0x00 0xFD 0x30))
    0xA0 0x00 0x00 0xFD 0x8002 0xF0 2 0x00 [] = true := by decide

/-- V35 (R200, R33): `69 01`. -/
theorem test_V35_adc : ends (cpuStep (start 0x8000 [(0x0000, 0x69), (0x0001, 0x01)] [] 0x09 0x00 0x00 0xFD 0x38))
    0x0A 0x00 0x00 0xFD 0x8002 0x38 2 0x00 [] = true := by decide

/-- V38 (R201): `E9 01`. -/
theorem test_V38_sbc : ends (cpuStep (start 0x8000 [(0x0000, 0xE9), (0x0001, 0x01)] [] 0x80 0x00 0x00 0xFD 0x31))
    0x7F 0x00 0x00 0xFD 0x8002 0x71 2 0x00 [] = true := by decide

/-- V40 (R201): `E9 03`. -/
theorem test_V40_sbc : ends (cpuStep (start 0x8000 [(0x0000, 0xE9), (0x0001, 0x03)] [] 0x05 0x00 0x00 0xFD 0x30))
    0x01 0x00 0x00 0xFD 0x8002 0x31 2 0x00 [] = true := by decide

/-- V43 (R203): `C9 41`. -/
theorem test_V43_cmp : ends (cpuStep (start 0x8000 [(0x0000, 0xC9), (0x0001, 0x41)] [] 0x40 0x00 0x00 0xFD 0x71))
    0x40 0x00 0x00 0xFD 0x8002 0xF0 2 0x00 [] = true := by decide

/-- V46 (R202, R203): `C9 01`. -/
theorem test_V46_cmp : ends (cpuStep (start 0x8000 [(0x0000, 0xC9), (0x0001, 0x01)] [] 0x80 0x00 0x00 0xFD 0x30))
    0x80 0x00 0x00 0xFD 0x8002 0x31 2 0x00 [] = true := by decide

/-- V47 (R204): `E4 10`. -/
theorem test_V47_cpx : ends (cpuStep (start 0x8000 [(0x0000, 0xE4), (0x0001, 0x10)] [(0x0010, 0x10)] 0x00 0x10 0x00 0xFD 0x34))
    0x00 0x10 0x00 0xFD 0x8002 0x37 3 0x00 [(0x0010, 0x10)] = true := by decide

/-- V48 (R205): `CC 00 02`. -/
theorem test_V48_cpy : ends (cpuStep (start 0x8000 [(0x0000, 0xCC), (0x0002, 0x02)] [(0x0200, 0x06)] 0x00 0x00 0x05 0xFD 0x34))
    0x00 0x00 0x05 0xFD 0x8003 0xB4 4 0x00 [(0x0200, 0x06)] = true := by decide

/-- V50 (R221): `E6 10`. -/
theorem test_V50_inc : ends (cpuStep (start 0x8000 [(0x0000, 0xE6), (0x0001, 0x10)] [(0x0010, 0xFF)] 0x00 0x00 0x00 0xFD 0x31))
    0x00 0x00 0x00 0xFD 0x8002 0x33 5 0x00 [] = true := by decide

/-- V51 (R222): `CE 00 02`. -/
theorem test_V51_dec : ends (cpuStep (start 0x8000 [(0x0000, 0xCE), (0x0002, 0x02)] [] 0x00 0x00 0x00 0xFD 0x34))
    0x00 0x00 0x00 0xFD 0x8003 0xB4 6 0x00 [(0x0200, 0xFF)] = true := by decide

/-- V52 (R223): `E8`. -/
theorem test_V52_inx : ends (cpuStep (start 0x8000 [(0x0000, 0xE8)] [] 0x00 0xFF 0x00 0xFD 0x31))
    0x00 0x00 0x00 0xFD 0x8001 0x33 2 0x00 [] = true := by decide

/-- V53 (R224): `C8`. -/
theorem test_V53_iny : ends (cpuStep (start 0x8000 [(0x0000, 0xC8)] [] 0x00 0x00 0x7F 0xFD 0x34))
    0x00 0x00 0x80 0xFD 0x8001 0xB4 2 0x00 [] = true := by decide

/-- V54 (R225): `CA`. -/
theorem test_V54_dex : ends (cpuStep (start 0x8000 [(0x0000, 0xCA)] [] 0x00 0x00 0x00 0xFD 0x34))
    0x00 0xFF 0x00 0xFD 0x8001 0xB4 2 0x00 [] = true := by decide

/-- V55 (R226): `88`. -/
theorem test_V55_dey : ends (cpuStep (start 0x8000 [(0x0000, 0x88)] [] 0x00 0x00 0x01 0xFD 0x34))
    0x00 0x00 0x00 0xFD 0x8001 0x36 2 0x00 [] = true := by decide

/-- V56 (R158, R221): `FE FF 01`. -/
theorem test_V56_inc : ends (cpuStep (start 0x8000 [(0x0000, 0xFE), (0x0001, 0xFF), (0x0002, 0x01)] [(0x0200, 0x41)] 0x00 0x01 0x00 0xFD 0x34))
    0x00 0x01 0x00 0xFD 0x8003 0x34 7 0x00 [(0x0200, 0x42)] = true := by decide

/-- V60 (R227): `0A`. -/
theorem test_V60_asl : ends (cpuStep (start 0x8000 [(0x0000, 0x0A)] [] 0x80 0x00 0x00 0xFD 0x30))
    0x00 0x00 0x00 0xFD 0x8001 0x33 2 0x00 [] = true := by decide

/-- V61 (R227): `06 10`. -/
theorem test_V61_asl : ends (cpuStep (start 0x8000 [(0x0000, 0x06), (0x0001, 0x10)] [(0x0010, 0x41)] 0x00 0x00 0x00 0xFD 0x31))
    0x00 0x00 0x00 0xFD 0x8002 0xB0 5 0x00 [(0x0010, 0x82)] = true := by decide

/-- V62 (R228): `4A`. -/
theorem test_V62_lsr : ends (cpuStep (start 0x8000 [(0x0000, 0x4A)] [] 0x01 0x00 0x00 0xFD 0xB0))
    0x00 0x00 0x00 0xFD 0x8001 0x33 2 0x00 [] = true := by decide

/-- V63 (R229): `2A`. -/
theorem test_V63_rol : ends (cpuStep (start 0x8000 [(0x0000, 0x2A)] [] 0x80 0x00 0x00 0xFD 0x31))
    0x01 0x00 0x00 0xFD 0x8001 0x31 2 0x00 [] = true := by decide

/-- V64 (R229): `26 10`. -/
theorem test_V64_rol : ends (cpuStep (start 0x8000 [(0x0000, 0x26), (0x0001, 0x10)] [(0x0010, 0x40)] 0x00 0x00 0x00 0xFD 0x30))
    0x00 0x00 0x00 0xFD 0x8002 0xB0 5 0x00 [(0x0010, 0x80)] = true := by decide

/-- V65 (R230): `6A`. -/
theorem test_V65_ror : ends (cpuStep (start 0x8000 [(0x0000, 0x6A)] [] 0x01 0x00 0x00 0xFD 0x31))
    0x80 0x00 0x00 0xFD 0x8001 0xB1 2 0x00 [] = true := by decide

/-- V66 (R230): `6E 00 02`. -/
theorem test_V66_ror : ends (cpuStep (start 0x8000 [(0x0000, 0x6E), (0x0002, 0x02)] [(0x0200, 0x02)] 0x00 0x00 0x00 0xFD 0x30))
    0x00 0x00 0x00 0xFD 0x8003 0x30 6 0x00 [(0x0200, 0x01)] = true := by decide

/-- V70 (R231): `29 0F`. -/
theorem test_V70_and : ends (cpuStep (start 0x8000 [(0x0000, 0x29), (0x0001, 0x0F)] [] 0xF0 0x00 0x00 0xFD 0x34))
    0x00 0x00 0x00 0xFD 0x8002 0x36 2 0x00 [] = true := by decide

/-- V71 (R232): `09 80`. -/
theorem test_V71_ora : ends (cpuStep (start 0x8000 [(0x0000, 0x09), (0x0001, 0x80)] [] 0x01 0x00 0x00 0xFD 0x34))
    0x81 0x00 0x00 0xFD 0x8002 0xB4 2 0x00 [] = true := by decide

/-- V72 (R233): `49 FF`. -/
theorem test_V72_eor : ends (cpuStep (start 0x8000 [(0x0000, 0x49), (0x0001, 0xFF)] [] 0xFF 0x00 0x00 0xFD 0x34))
    0x00 0x00 0x00 0xFD 0x8002 0x36 2 0x00 [] = true := by decide

/-- V73 (R234): `24 10`. -/
theorem test_V73_bit : ends (cpuStep (start 0x8000 [(0x0000, 0x24), (0x0001, 0x10)] [(0x0010, 0xC0)] 0x01 0x00 0x00 0xFD 0x30))
    0x01 0x00 0x00 0xFD 0x8002 0xF2 3 0x00 [(0x0010, 0xC0)] = true := by decide

/-- V74 (R234): `2C 00 02`. -/
theorem test_V74_bit : ends (cpuStep (start 0x8000 [(0x0000, 0x2C), (0x0002, 0x02)] [(0x0200, 0x3F)] 0xFF 0x00 0x00 0xFD 0xF2))
    0xFF 0x00 0x00 0xFD 0x8003 0x30 4 0x00 [(0x0200, 0x3F)] = true := by decide

/-- V80 (R250, R251): `90 10`. -/
theorem test_V80_bcc : ends (cpuStep (start 0x8000 [(0x0000, 0x90), (0x0001, 0x10)] [] 0x00 0x00 0x00 0xFD 0x30))
    0x00 0x00 0x00 0xFD 0x8012 0x30 3 0x00 [] = true := by decide

/-- V81 (R250, R251): `90 10`. -/
theorem test_V81_bcc : ends (cpuStep (start 0x8000 [(0x0000, 0x90), (0x0001, 0x10)] [] 0x00 0x00 0x00 0xFD 0x31))
    0x00 0x00 0x00 0xFD 0x8002 0x31 2 0x00 [] = true := by decide

/-- V82 (R250, R253): `F0 20`. -/
theorem test_V82_beq : ends (cpuStep (start 0x80F0 [(0x00F0, 0xF0), (0x00F1, 0x20)] [] 0x00 0x00 0x00 0xFD 0x32))
    0x00 0x00 0x00 0xFD 0x8112 0x32 4 0x00 [] = true := by decide

/-- V83 (R250, R254): `D0 FB`. -/
theorem test_V83_bne : ends (cpuStep (start 0x8000 [(0x0000, 0xD0), (0x0001, 0xFB)] [] 0x00 0x00 0x00 0xFD 0x30))
    0x00 0x00 0x00 0xFD 0x7FFD 0x30 4 0x00 [] = true := by decide

/-- V84 (R252): `B0 FE`. -/
theorem test_V84_bcs : ends (cpuStep (start 0x8000 [(0x0000, 0xB0), (0x0001, 0xFE)] [] 0x00 0x00 0x00 0xFD 0x31))
    0x00 0x00 0x00 0xFD 0x8000 0x31 3 0x00 [] = true := by decide

/-- V85 (R250, R256): `10 00`. -/
theorem test_V85_bpl : ends (cpuStep (start 0x8000 [(0x0000, 0x10)] [] 0x00 0x00 0x00 0xFD 0x30))
    0x00 0x00 0x00 0xFD 0x8002 0x30 3 0x00 [] = true := by decide

/-- V86 (R255): `30 7F`. -/
theorem test_V86_bmi : ends (cpuStep (start 0x80FC [(0x00FC, 0x30), (0x00FD, 0x7F)] [] 0x00 0x00 0x00 0xFD 0xB0))
    0x00 0x00 0x00 0xFD 0x817D 0xB0 4 0x00 [] = true := by decide

/-- V87 (R162, R259): `6C FF 02`. -/
theorem test_V87_jmp : ends (cpuStep (start 0x8000 [(0x0000, 0x6C), (0x0001, 0xFF), (0x0002, 0x02)] [(0x0200, 0x12), (0x02FF, 0x34), (0x0300, 0x56)] 0x00 0x00 0x00 0xFD 0x34))
    0x00 0x00 0x00 0xFD 0x1234 0x34 5 0x00 [(0x0200, 0x12), (0x02FF, 0x34), (0x0300, 0x56)] = true := by decide

/-- V89 (R260): `20 10 80`. -/
theorem test_V89_jsr : ends (cpuStep (start 0x8000 [(0x0000, 0x20), (0x0001, 0x10), (0x0002, 0x80)] [] 0x00 0x00 0x00 0xFD 0x34))
    0x00 0x00 0x00 0xFB 0x8010 0x34 6 0x00 [(0x01FC, 0x02), (0x01FD, 0x80)] = true := by decide

/-- V90 (R261): `60`. -/
theorem test_V90_rts : ends (cpuStep (start 0x8000 [(0x0000, 0x60)] [(0x01FC, 0x02), (0x01FD, 0x80)] 0x00 0x00 0x00 0xFB 0x34))
    0x00 0x00 0x00 0xFD 0x8003 0x34 6 0x00 [(0x01FC, 0x02), (0x01FD, 0x80)] = true := by decide

/-- V91 (R261, R190): `60`. -/
theorem test_V91_rts : ends (cpuStep (start 0x8000 [(0x0000, 0x60)] [(0x0100, 0xFF), (0x01FF, 0xFF)] 0x00 0x00 0x00 0xFE 0x34))
    0x00 0x00 0x00 0x00 0x0000 0x34 6 0x00 [(0x0100, 0xFF), (0x01FF, 0xFF)] = true := by decide

/-- V92 (R262): `40`. -/
theorem test_V92_rti : ends (cpuStep (start 0x8000 [(0x0000, 0x40)] [(0x01FB, 0x20), (0x01FC, 0x34), (0x01FD, 0x12)] 0x00 0x00 0x00 0xFA 0x34))
    0x00 0x00 0x00 0xFD 0x1234 0x20 6 0x00 [(0x01FB, 0x20), (0x01FC, 0x34), (0x01FD, 0x12)] = true := by decide

/-- V93 (R264): `00`. -/
theorem test_V93_brk : ends (cpuStep (start 0x8000 [(0x7FFF, 0x90)] [] 0x00 0x00 0x00 0xFD 0x30))
    0x00 0x00 0x00 0xFA 0x9000 0x34 7 0x00 [(0x01FB, 0x30), (0x01FC, 0x02), (0x01FD, 0x80)] = true := by decide

/-- V94 (R264): `00`. -/
theorem test_V94_brk : ends (cpuStep (start 0x8000 [(0x7FFF, 0x90)] [] 0x00 0x00 0x00 0xFD 0x34))
    0x00 0x00 0x00 0xFA 0x8001 0x34 7 0x00 [(0x01FB, 0x34), (0x01FC, 0x02), (0x01FD, 0x80)] = true := by decide

/-- V96 (R270): `18`. -/
theorem test_V96_clc : ends (cpuStep (start 0x8000 [(0x0000, 0x18)] [] 0x00 0x00 0x00 0xFD 0xFF))
    0x00 0x00 0x00 0xFD 0x8001 0xFE 2 0x00 [] = true := by decide

/-- V97 (R271): `38`. -/
theorem test_V97_sec : ends (cpuStep (start 0x8000 [(0x0000, 0x38)] [] 0x00 0x00 0x00 0xFD 0x30))
    0x00 0x00 0x00 0xFD 0x8001 0x31 2 0x00 [] = true := by decide

/-- V98 (R272): `58`. -/
theorem test_V98_cli : ends (cpuStep (start 0x8000 [(0x0000, 0x58)] [] 0x00 0x00 0x00 0xFD 0x34))
    0x00 0x00 0x00 0xFD 0x8001 0x30 2 0x00 [] = true := by decide

/-- V99 (R273): `78`. -/
theorem test_V99_sei : ends (cpuStep (start 0x8000 [(0x0000, 0x78)] [] 0x00 0x00 0x00 0xFD 0x30))
    0x00 0x00 0x00 0xFD 0x8001 0x34 2 0x00 [] = true := by decide

/-- V100 (R274): `B8`. -/
theorem test_V100_clv : ends (cpuStep (start 0x8000 [(0x0000, 0xB8)] [] 0x00 0x00 0x00 0xFD 0x70))
    0x00 0x00 0x00 0xFD 0x8001 0x30 2 0x00 [] = true := by decide

/-- V101 (R275): `D8`. -/
theorem test_V101_cld : ends (cpuStep (start 0x8000 [(0x0000, 0xD8)] [] 0x00 0x00 0x00 0xFD 0x3C))
    0x00 0x00 0x00 0xFD 0x8001 0x34 2 0x00 [] = true := by decide

/-- V102 (R276): `F8`. -/
theorem test_V102_sed : ends (cpuStep (start 0x8000 [(0x0000, 0xF8)] [] 0x00 0x00 0x00 0xFD 0x34))
    0x00 0x00 0x00 0xFD 0x8001 0x3C 2 0x00 [] = true := by decide

/-- V104 (R24, R277): `EA`. -/
theorem test_V104_nop : ends (cpuStep (start 0xFFFF [(0x7FFF, 0xEA)] [] 0x00 0x00 0x00 0xFD 0x34))
    0x00 0x00 0x00 0xFD 0x0000 0x34 2 0x00 [] = true := by decide

/-- V110 (R291): `A7 10`. -/
theorem test_V110_lax : ends (cpuStep (start 0x8000 [(0x0000, 0xA7), (0x0001, 0x10)] [(0x0010, 0x80)] 0x00 0x00 0x00 0xFD 0x34))
    0x80 0x80 0x00 0xFD 0x8002 0xB4 3 0x00 [(0x0010, 0x80)] = true := by decide

/-- V111 (R292): `87 10`. -/
theorem test_V111_sax : ends (cpuStep (start 0x8000 [(0x0000, 0x87), (0x0001, 0x10)] [(0x0010, 0xFF)] 0xF0 0x3C 0x00 0xFD 0x34))
    0xF0 0x3C 0x00 0xFD 0x8002 0x34 3 0x00 [(0x0010, 0x30)] = true := by decide

/-- V112 (R293): `C7 10`. -/
theorem test_V112_dcp : ends (cpuStep (start 0x8000 [(0x0000, 0xC7), (0x0001, 0x10)] [(0x0010, 0x11)] 0x10 0x00 0x00 0xFD 0x30))
    0x10 0x00 0x00 0xFD 0x8002 0x33 5 0x00 [(0x0010, 0x10)] = true := by decide

/-- V113 (R293): `C7 10`. -/
theorem test_V113_dcp : ends (cpuStep (start 0x8000 [(0x0000, 0xC7), (0x0001, 0x10)] [] 0x10 0x00 0x00 0xFD 0x31))
    0x10 0x00 0x00 0xFD 0x8002 0x30 5 0x00 [(0x0010, 0xFF)] = true := by decide

/-- V114 (R294): `E7 10`. -/
theorem test_V114_isb : ends (cpuStep (start 0x8000 [(0x0000, 0xE7), (0x0001, 0x10)] [(0x0010, 0x0F)] 0x10 0x00 0x00 0xFD 0x31))
    0x00 0x00 0x00 0xFD 0x8002 0x33 5 0x00 [(0x0010, 0x10)] = true := by decide

/-- V115 (R294): `E7 10`. -/
theorem test_V115_isb : ends (cpuStep (start 0x8000 [(0x0000, 0xE7), (0x0001, 0x10)] [(0x0010, 0xFF)] 0x80 0x00 0x00 0xFD 0x30))
    0x7F 0x00 0x00 0xFD 0x8002 0x71 5 0x00 [] = true := by decide

/-- V116 (R295): `07 10`. -/
theorem test_V116_slo : ends (cpuStep (start 0x8000 [(0x0000, 0x07), (0x0001, 0x10)] [(0x0010, 0xC0)] 0x01 0x00 0x00 0xFD 0x30))
    0x81 0x00 0x00 0xFD 0x8002 0xB1 5 0x00 [(0x0010, 0x80)] = true := by decide

/-- V117 (R296): `27 10`. -/
theorem test_V117_rla : ends (cpuStep (start 0x8000 [(0x0000, 0x27), (0x0001, 0x10)] [(0x0010, 0x40)] 0xFF 0x00 0x00 0xFD 0x31))
    0x81 0x00 0x00 0xFD 0x8002 0xB0 5 0x00 [(0x0010, 0x81)] = true := by decide

/-- V118 (R297): `47 10`. -/
theorem test_V118_sre : ends (cpuStep (start 0x8000 [(0x0000, 0x47), (0x0001, 0x10)] [(0x0010, 0x03)] 0x01 0x00 0x00 0xFD 0x30))
    0x00 0x00 0x00 0xFD 0x8002 0x33 5 0x00 [(0x0010, 0x01)] = true := by decide

/-- V119 (R298): `67 10`. -/
theorem test_V119_rra : ends (cpuStep (start 0x8000 [(0x0000, 0x67), (0x0001, 0x10)] [(0x0010, 0x03)] 0x10 0x00 0x00 0xFD 0x30))
    0x12 0x00 0x00 0xFD 0x8002 0x30 5 0x00 [(0x0010, 0x01)] = true := by decide

/-- V120 (R161, R298): `73 20`. -/
theorem test_V120_rra : ends (cpuStep (start 0x8000 [(0x0000, 0x73), (0x0001, 0x20)] [(0x0020, 0xFF), (0x0021, 0x02), (0x0300, 0x01)] 0x7F 0x00 0x01 0xFD 0x31))
    0x00 0x00 0x01 0xFD 0x8002 0x33 8 0x00 [(0x0020, 0xFF), (0x0021, 0x02), (0x0300, 0x80)] = true := by decide
/-! ## Cases the vectors do not reach, by hand from the rules -/

/-- R257: `50 10` with `V = 1` is not taken, 2 cycles. -/
theorem test_bvc_not_taken : ends (cpuStep (start 0x8000 [(0, 0x50), (1, 0x10)] [] 0 0 0 0xFD 0x70))
    0 0 0 0xFD 0x8002 0x70 2 0 [] = true := by decide

/-- R258: `70 10` with `V = 1` is taken inside the page, 3 cycles. -/
theorem test_bvs_taken : ends (cpuStep (start 0x8000 [(0, 0x70), (1, 0x10)] [] 0 0 0 0xFD 0x70))
    0 0 0 0xFD 0x8012 0x70 3 0 [] = true := by decide

/-- R259, program P2: `4C 0E 80` at `800E` is a jump to itself, 3 cycles. -/
theorem test_jmp_absolute : ends (cpuStep (start 0x800E [(14, 0x4C), (15, 0x0E), (16, 0x80)] [] 0x0F 0 0 0xFD 0x36))
    0x0F 0 0 0xFD 0x800E 0x36 3 0 [] = true := by decide

/-- The fault vectors V130, V131, V132: `PC` and every register as before. -/
theorem test_V130_no_entry : cpuStep (start 0x8000 [(0, 0x02)] [] 0 0 0 0xFD 0x34) =
    .raised (.decodeFailure 0x02 0x8000) (start 0x8000 [(0, 0x02)] [] 0 0 0 0xFD 0x34) := by decide

theorem test_V131_no_entry : cpuStep (start 0x8000 [(0, 0xAB)] [] 0 0 0 0xFD 0x34) =
    .raised (.decodeFailure 0xAB 0x8000) (start 0x8000 [(0, 0xAB)] [] 0 0 0 0xFD 0x34) := by decide

theorem test_V132_no_entry : cpuStep (start 0x8000 [(0, 0xEB)] [] 0 0 0 0xFD 0x34) =
    .raised (.decodeFailure 0xEB 0x8000) (start 0x8000 [(0, 0xEB)] [] 0 0 0 0xFD 0x34) := by decide

/-! ## DMA, interrupt and reset: spec 95, part 4 -/

/-- The machine of T10: a DMA request for page 2 and a `NOP` at `PC`. -/
def dmaState (page : Byte) : State :=
  { start 0x8000 [(0, 0xEA)] [(0x0200, 0x01), (0x0201, 0x04), (0x02FF, 0xFE), (0x0700, 0x77)] 0 0 0 0xFD 0x34 with
    dmaLatch := page }

/-- A drain of a page inside work RAM (R362). -/
theorem drains (s : State) (h : s.dmaLatch ≠ 0x00) (h' : ¬ Config.ramSize ≤ dmaBase s.dmaLatch + 255) :
    dmaDrain s = .ok ((dmaTransfer s.dmaLatch { s with dmaLatch := 0x00 }).charge Config.dmaStall) := by
  rw [dmaDrain, if_neg h]; exact if_neg h'

/-- T10: the bytes of page 2 are in `OAM`, the first and the last included. -/
theorem test_T10_dma_bytes : let oam := (dmaTransfer 0x02 (dmaState 0x02)).oam
    oam.read 0 = 0x01 ∧ oam.read 1 = 0x04 ∧ oam.read 255 = 0xFE := by
  simp only [dmaTransfer, read_copyToOam]; decide

/-- T10, T12: pages 2 and 7 transfer at the cost of 514 and clear the latch. -/
theorem test_T10_T12_dma_cost : ∀ page ∈ [0x02#8, 0x07#8], ∃ t, dmaDrain (dmaState page) = .ok t ∧
    t.cycles = 514 ∧ t.dmaLatch = 0x00 ∧ t.pc = 0x8000 := by
  intro page h
  simp only [List.mem_cons, List.not_mem_nil, or_false] at h
  rcases h with rfl | rfl <;> exact ⟨_, drains _ (by decide) (by decide), rfl, rfl, rfl⟩

/-- T13: page 8 raises; the latch is clear and `OAM` as before. -/
theorem test_T13_page_8 : dmaDrain (dmaState 0x08) =
    .raised (.addressRangeViolation .workRam 0x0800) { dmaState 0x08 with dmaLatch := 0x00 } := by decide

/-- The machine of T15 and T16. -/
def nmiState (p : Byte) : State :=
  { start 0x8123 [(0x0123, 0xE8), (0x7FFA, 0x10), (0x7FFB, 0x90)] [] 0 0 0 0xFD p with nmiRequest := true }

/-- T15: the pushed byte has bit 4 clear, the stored `B` stays. -/
theorem test_T15_nmi : ends (cpuStep (nmiState 0xB5)) 0 0 0 0xFA 0x9010 0xB5 7 0
    [(0x01FB, 0xA5), (0x01FC, 0x23), (0x01FD, 0x81)] = true := by decide

/-- T16: with `B = 0` and `I = 0` the entry sets `I` and leaves `B`. -/
theorem test_T16_nmi : ends (cpuStep (nmiState 0x20)) 0 0 0 0xFA 0x9010 0x24 7 0
    [(0x01FB, 0x20), (0x01FC, 0x23), (0x01FD, 0x81)] = true := by decide

/-- T20: reset sets the registers and nothing else. -/
theorem test_T20_reset :
    let s := { start 0x5555 [(0x7FFC, 0x34), (0x7FFD, 0x12)] [] 0x11 0x22 0x33 0x44 0xFF with
      dmaLatch := 0x02, nmiRequest := true, ppuLine := 100 }
    resetCpu s = .ok { s with a := 0, x := 0, y := 0, sp := 0xFD, flags := setP 0x34, pc := 0x1234 } := by decide

/-- P1 (S9): from power-on and reset, `A9 FF` gives `A = FF`, `P = B4`, `PC = 8002` at cost 2. -/
theorem test_P1_end_to_end : (match resetCpu (start 0 [(0, 0xA9), (1, 0xFF), (0x7FFD, 0x80)] [] 0 0 0 0 0) with
    | .ok s => ends (cpuStep s) 0xFF 0 0 0xFD 0x8002 0xB4 2 0 []
    | _ => false) = true := by decide

/-- T8, first step: `JMP` costs 3, so the PPU has ticked 9 times. -/
theorem test_T8_step_ticks : ∃ t, step (start 0x8000 [(0, 0x4C), (2, 0x80)] [] 0 0 0 0xFD 0x34) = .next t ∧
    t.pc = 0x8000 ∧ t.cycles = 3 ∧ t.ppuCycle = 9 ∧ t.ppuLine = 0 := ⟨_, rfl, by decide⟩

/-- P5, machine step 3: a request for page 8 faults the step. -/
theorem test_P5_step_faults : step (dmaState 0x08) = .fault (.addressRangeViolation .workRam 0x0800) := by
  simp only [step, machineStep, dmaState]
  rfl

/-! ## Well-formedness and the image check -/

/-- R9: an image of a size other than 16 KiB or 32 KiB is refused, and power-on refuses it by name. -/
theorem test_wellFormed_refuses_size : CartImage.wellFormed
    { prg := [0xEA], chr := [], chrIsRam := false, mirrorH := false } = false := by decide

theorem test_powerOn_refuses_size : powerOnImage
    { prg := [0xEA], chr := [], chrIsRam := false, mirrorH := false } [] [] [] = .refused (.prgSizeUnsupported 1) := by
  decide

/-- An image of 16 KiB is accepted. -/
theorem test_wellFormed_accepts_16k : CartImage.wellFormed
    { prg := List.replicate 0x4000 0xEA, chr := [], chrIsRam := false, mirrorH := false } = true := by
  unfold CartImage.wellFormed; rw [List.length_replicate]; rfl

/-! ## Decoding, bit by bit from the encodings of the rules -/

theorem test_decode_lda_imm : decode [0b10101001#8, 0b11111111#8] = .ok (.ldaImm 0xFF, []) := rfl
theorem test_decode_ldy_absx : decode [0b10111100#8, 0b00110100#8, 0b00010010#8] = .ok (.ldyAbx 0x1234, []) := rfl
theorem test_decode_stx_zpy : decode [0b10010110#8, 0b11111111#8] = .ok (.stxZpy 0xFF, []) := rfl
theorem test_decode_txs : decode [0b10011010#8] = .ok (.txs, []) := rfl
theorem test_decode_plp : decode [0b00101000#8, 0b11101010#8] = .ok (.plp, [0xEA]) := rfl
theorem test_decode_sbc_izx : decode [0b11100001#8, 0b10000000#8] = .ok (.sbcIzx 0x80, []) := rfl
theorem test_decode_cmp_aby : decode [0b11011001#8, 0b00000000#8, 0b10000000#8] = .ok (.cmpAby 0x8000, []) := rfl
theorem test_decode_ror_acc : decode [0b01101010#8] = .ok (.rorAcc, []) := rfl
theorem test_decode_dec_zpx : decode [0b11010110#8, 0b00010000#8] = .ok (.decZpx 0x10, []) := rfl
theorem test_decode_bit_zp : decode [0b00100100#8, 0b00010000#8] = .ok (.bitZp 0x10, []) := rfl
theorem test_decode_bmi : decode [0b00110000#8, 0b01111111#8] = .ok (.bmi 0x7F, []) := rfl
theorem test_decode_jmp_ind : decode [0b01101100#8, 0b11111111#8, 0b00000010#8] = .ok (.jmpInd 0x02FF, []) := rfl
theorem test_decode_rti : decode [0b01000000#8] = .ok (.rti, []) := rfl
theorem test_decode_sed : decode [0b11111000#8] = .ok (.sed, []) := rfl
theorem test_decode_lax_zpy : decode [0b10110111#8, 0b00010000#8] = .ok (.laxZpy 0x10, []) := rfl
theorem test_decode_rra_izy : decode [0b01110011#8, 0b00100000#8] = .ok (.rraIzy 0x20, []) := rfl
/-- Every pair's bytes decode to its instruction, with nothing left. -/
def decodesTo (table : List (List Byte × Instr)) : Bool :=
  table.all fun p => match decode p.1 with
    | .ok (i, []) => decide (i = p.2)
    | _ => false

/-! Every row of the opcode table by its bits, with the operand byte `34` or the operand word `1234` (R124: low byte
first), one theorem for each upper half of the opcode byte. -/

theorem test_decode_row_0 : decodesTo
    [([0b00000000], .brk), ([0b00000001, 0x34], .oraIzx 0x34), ([0b00000011, 0x34], .sloIzx 0x34),
    ([0b00000101, 0x34], .oraZp 0x34), ([0b00000110, 0x34], .aslZp 0x34), ([0b00000111, 0x34], .sloZp 0x34),
    ([0b00001000], .php), ([0b00001001, 0x34], .oraImm 0x34), ([0b00001010], .aslAcc),
    ([0b00001101, 0x34, 0x12], .oraAbs 0x1234), ([0b00001110, 0x34, 0x12], .aslAbs 0x1234),
    ([0b00001111, 0x34, 0x12], .sloAbs 0x1234)] = true := by decide

theorem test_decode_row_1 : decodesTo
    [([0b00010000, 0x34], .bpl 0x34), ([0b00010001, 0x34], .oraIzy 0x34), ([0b00010011, 0x34], .sloIzy 0x34),
    ([0b00010101, 0x34], .oraZpx 0x34), ([0b00010110, 0x34], .aslZpx 0x34), ([0b00010111, 0x34], .sloZpx 0x34),
    ([0b00011000], .clc), ([0b00011001, 0x34, 0x12], .oraAby 0x1234), ([0b00011011, 0x34, 0x12], .sloAby 0x1234),
    ([0b00011101, 0x34, 0x12], .oraAbx 0x1234), ([0b00011110, 0x34, 0x12], .aslAbx 0x1234),
    ([0b00011111, 0x34, 0x12], .sloAbx 0x1234)] = true := by decide

theorem test_decode_row_2 : decodesTo
    [([0b00100000, 0x34, 0x12], .jsr 0x1234), ([0b00100001, 0x34], .andIzx 0x34),
    ([0b00100011, 0x34], .rlaIzx 0x34), ([0b00100100, 0x34], .bitZp 0x34), ([0b00100101, 0x34], .andZp 0x34),
    ([0b00100110, 0x34], .rolZp 0x34), ([0b00100111, 0x34], .rlaZp 0x34), ([0b00101000], .plp),
    ([0b00101001, 0x34], .andImm 0x34), ([0b00101010], .rolAcc), ([0b00101100, 0x34, 0x12], .bitAbs 0x1234),
    ([0b00101101, 0x34, 0x12], .andAbs 0x1234), ([0b00101110, 0x34, 0x12], .rolAbs 0x1234),
    ([0b00101111, 0x34, 0x12], .rlaAbs 0x1234)] = true := by decide

theorem test_decode_row_3 : decodesTo
    [([0b00110000, 0x34], .bmi 0x34), ([0b00110001, 0x34], .andIzy 0x34), ([0b00110011, 0x34], .rlaIzy 0x34),
    ([0b00110101, 0x34], .andZpx 0x34), ([0b00110110, 0x34], .rolZpx 0x34), ([0b00110111, 0x34], .rlaZpx 0x34),
    ([0b00111000], .sec), ([0b00111001, 0x34, 0x12], .andAby 0x1234), ([0b00111011, 0x34, 0x12], .rlaAby 0x1234),
    ([0b00111101, 0x34, 0x12], .andAbx 0x1234), ([0b00111110, 0x34, 0x12], .rolAbx 0x1234),
    ([0b00111111, 0x34, 0x12], .rlaAbx 0x1234)] = true := by decide

theorem test_decode_row_4 : decodesTo
    [([0b01000000], .rti), ([0b01000001, 0x34], .eorIzx 0x34), ([0b01000011, 0x34], .sreIzx 0x34),
    ([0b01000101, 0x34], .eorZp 0x34), ([0b01000110, 0x34], .lsrZp 0x34), ([0b01000111, 0x34], .sreZp 0x34),
    ([0b01001000], .pha), ([0b01001001, 0x34], .eorImm 0x34), ([0b01001010], .lsrAcc),
    ([0b01001100, 0x34, 0x12], .jmpAbs 0x1234), ([0b01001101, 0x34, 0x12], .eorAbs 0x1234),
    ([0b01001110, 0x34, 0x12], .lsrAbs 0x1234), ([0b01001111, 0x34, 0x12], .sreAbs 0x1234)] = true := by decide

theorem test_decode_row_5 : decodesTo
    [([0b01010000, 0x34], .bvc 0x34), ([0b01010001, 0x34], .eorIzy 0x34), ([0b01010011, 0x34], .sreIzy 0x34),
    ([0b01010101, 0x34], .eorZpx 0x34), ([0b01010110, 0x34], .lsrZpx 0x34), ([0b01010111, 0x34], .sreZpx 0x34),
    ([0b01011000], .cli), ([0b01011001, 0x34, 0x12], .eorAby 0x1234), ([0b01011011, 0x34, 0x12], .sreAby 0x1234),
    ([0b01011101, 0x34, 0x12], .eorAbx 0x1234), ([0b01011110, 0x34, 0x12], .lsrAbx 0x1234),
    ([0b01011111, 0x34, 0x12], .sreAbx 0x1234)] = true := by decide

theorem test_decode_row_6 : decodesTo
    [([0b01100000], .rts), ([0b01100001, 0x34], .adcIzx 0x34), ([0b01100011, 0x34], .rraIzx 0x34),
    ([0b01100101, 0x34], .adcZp 0x34), ([0b01100110, 0x34], .rorZp 0x34), ([0b01100111, 0x34], .rraZp 0x34),
    ([0b01101000], .pla), ([0b01101001, 0x34], .adcImm 0x34), ([0b01101010], .rorAcc),
    ([0b01101100, 0x34, 0x12], .jmpInd 0x1234), ([0b01101101, 0x34, 0x12], .adcAbs 0x1234),
    ([0b01101110, 0x34, 0x12], .rorAbs 0x1234), ([0b01101111, 0x34, 0x12], .rraAbs 0x1234)] = true := by decide

theorem test_decode_row_7 : decodesTo
    [([0b01110000, 0x34], .bvs 0x34), ([0b01110001, 0x34], .adcIzy 0x34), ([0b01110011, 0x34], .rraIzy 0x34),
    ([0b01110101, 0x34], .adcZpx 0x34), ([0b01110110, 0x34], .rorZpx 0x34), ([0b01110111, 0x34], .rraZpx 0x34),
    ([0b01111000], .sei), ([0b01111001, 0x34, 0x12], .adcAby 0x1234), ([0b01111011, 0x34, 0x12], .rraAby 0x1234),
    ([0b01111101, 0x34, 0x12], .adcAbx 0x1234), ([0b01111110, 0x34, 0x12], .rorAbx 0x1234),
    ([0b01111111, 0x34, 0x12], .rraAbx 0x1234)] = true := by decide

theorem test_decode_row_8 : decodesTo
    [([0b10000001, 0x34], .staIzx 0x34), ([0b10000011, 0x34], .saxIzx 0x34), ([0b10000100, 0x34], .styZp 0x34),
    ([0b10000101, 0x34], .staZp 0x34), ([0b10000110, 0x34], .stxZp 0x34), ([0b10000111, 0x34], .saxZp 0x34),
    ([0b10001000], .dey), ([0b10001010], .txa), ([0b10001100, 0x34, 0x12], .styAbs 0x1234),
    ([0b10001101, 0x34, 0x12], .staAbs 0x1234), ([0b10001110, 0x34, 0x12], .stxAbs 0x1234),
    ([0b10001111, 0x34, 0x12], .saxAbs 0x1234)] = true := by decide

theorem test_decode_row_9 : decodesTo
    [([0b10010000, 0x34], .bcc 0x34), ([0b10010001, 0x34], .staIzy 0x34), ([0b10010100, 0x34], .styZpx 0x34),
    ([0b10010101, 0x34], .staZpx 0x34), ([0b10010110, 0x34], .stxZpy 0x34), ([0b10010111, 0x34], .saxZpy 0x34),
    ([0b10011000], .tya), ([0b10011001, 0x34, 0x12], .staAby 0x1234), ([0b10011010], .txs),
    ([0b10011101, 0x34, 0x12], .staAbx 0x1234)] = true := by decide

theorem test_decode_row_A : decodesTo
    [([0b10100000, 0x34], .ldyImm 0x34), ([0b10100001, 0x34], .ldaIzx 0x34), ([0b10100010, 0x34], .ldxImm 0x34),
    ([0b10100011, 0x34], .laxIzx 0x34), ([0b10100100, 0x34], .ldyZp 0x34), ([0b10100101, 0x34], .ldaZp 0x34),
    ([0b10100110, 0x34], .ldxZp 0x34), ([0b10100111, 0x34], .laxZp 0x34), ([0b10101000], .tay),
    ([0b10101001, 0x34], .ldaImm 0x34), ([0b10101010], .tax), ([0b10101100, 0x34, 0x12], .ldyAbs 0x1234),
    ([0b10101101, 0x34, 0x12], .ldaAbs 0x1234), ([0b10101110, 0x34, 0x12], .ldxAbs 0x1234),
    ([0b10101111, 0x34, 0x12], .laxAbs 0x1234)] = true := by decide

theorem test_decode_row_B : decodesTo
    [([0b10110000, 0x34], .bcs 0x34), ([0b10110001, 0x34], .ldaIzy 0x34), ([0b10110011, 0x34], .laxIzy 0x34),
    ([0b10110100, 0x34], .ldyZpx 0x34), ([0b10110101, 0x34], .ldaZpx 0x34), ([0b10110110, 0x34], .ldxZpy 0x34),
    ([0b10110111, 0x34], .laxZpy 0x34), ([0b10111000], .clv), ([0b10111001, 0x34, 0x12], .ldaAby 0x1234),
    ([0b10111010], .tsx), ([0b10111100, 0x34, 0x12], .ldyAbx 0x1234), ([0b10111101, 0x34, 0x12], .ldaAbx 0x1234),
    ([0b10111110, 0x34, 0x12], .ldxAby 0x1234), ([0b10111111, 0x34, 0x12], .laxAby 0x1234)] = true := by decide

theorem test_decode_row_C : decodesTo
    [([0b11000000, 0x34], .cpyImm 0x34), ([0b11000001, 0x34], .cmpIzx 0x34), ([0b11000011, 0x34], .dcpIzx 0x34),
    ([0b11000100, 0x34], .cpyZp 0x34), ([0b11000101, 0x34], .cmpZp 0x34), ([0b11000110, 0x34], .decZp 0x34),
    ([0b11000111, 0x34], .dcpZp 0x34), ([0b11001000], .iny), ([0b11001001, 0x34], .cmpImm 0x34),
    ([0b11001010], .dex), ([0b11001100, 0x34, 0x12], .cpyAbs 0x1234), ([0b11001101, 0x34, 0x12], .cmpAbs 0x1234),
    ([0b11001110, 0x34, 0x12], .decAbs 0x1234), ([0b11001111, 0x34, 0x12], .dcpAbs 0x1234)] = true := by decide

theorem test_decode_row_D : decodesTo
    [([0b11010000, 0x34], .bne 0x34), ([0b11010001, 0x34], .cmpIzy 0x34), ([0b11010011, 0x34], .dcpIzy 0x34),
    ([0b11010101, 0x34], .cmpZpx 0x34), ([0b11010110, 0x34], .decZpx 0x34), ([0b11010111, 0x34], .dcpZpx 0x34),
    ([0b11011000], .cld), ([0b11011001, 0x34, 0x12], .cmpAby 0x1234), ([0b11011011, 0x34, 0x12], .dcpAby 0x1234),
    ([0b11011101, 0x34, 0x12], .cmpAbx 0x1234), ([0b11011110, 0x34, 0x12], .decAbx 0x1234),
    ([0b11011111, 0x34, 0x12], .dcpAbx 0x1234)] = true := by decide

theorem test_decode_row_E : decodesTo
    [([0b11100000, 0x34], .cpxImm 0x34), ([0b11100001, 0x34], .sbcIzx 0x34), ([0b11100011, 0x34], .isbIzx 0x34),
    ([0b11100100, 0x34], .cpxZp 0x34), ([0b11100101, 0x34], .sbcZp 0x34), ([0b11100110, 0x34], .incZp 0x34),
    ([0b11100111, 0x34], .isbZp 0x34), ([0b11101000], .inx), ([0b11101001, 0x34], .sbcImm 0x34),
    ([0b11101010], .nop), ([0b11101100, 0x34, 0x12], .cpxAbs 0x1234), ([0b11101101, 0x34, 0x12], .sbcAbs 0x1234),
    ([0b11101110, 0x34, 0x12], .incAbs 0x1234), ([0b11101111, 0x34, 0x12], .isbAbs 0x1234)] = true := by decide

theorem test_decode_row_F : decodesTo
    [([0b11110000, 0x34], .beq 0x34), ([0b11110001, 0x34], .sbcIzy 0x34), ([0b11110011, 0x34], .isbIzy 0x34),
    ([0b11110101, 0x34], .sbcZpx 0x34), ([0b11110110, 0x34], .incZpx 0x34), ([0b11110111, 0x34], .isbZpx 0x34),
    ([0b11111000], .sed), ([0b11111001, 0x34, 0x12], .sbcAby 0x1234), ([0b11111011, 0x34, 0x12], .isbAby 0x1234),
    ([0b11111101, 0x34, 0x12], .sbcAbx 0x1234), ([0b11111110, 0x34, 0x12], .incAbx 0x1234),
    ([0b11111111, 0x34, 0x12], .isbAbx 0x1234)] = true := by decide
theorem test_decode_truncated : decode [0b10101101#8, 0x00] = .error (.truncated 0xAD) := rfl

/-- A table word counts its bits from the first byte: the opcode is bits 7..0. -/
theorem test_decodeTableWord : decodeTableWord 24 0x0200AD = some (.ldaAbs 0x0200) := by decide

/-- Operand bytes above `nbits` read 0. -/
theorem test_decodeTableWord_short : decodeTableWord 8 0x0200AD = some (.ldaAbs 0) := by decide

/-- A placed word is what the next step runs. -/
theorem test_withFetchWord_fetches : fetchInstr (State.reset.withFetchWord 24 0x0200AD) =
    .instr (.ldaAbs 0x0200) { State.reset.withFetchWord 24 0x0200AD with pc := State.reset.pc + 3 } := by decide

/-! ## A witness for the hypotheses of every obligation that has some -/

/-- `A9 FF` at `8000`, everything else as after reset. -/
def ldaState : State := start 0x8000 [(0, 0xA9), (1, 0xFF)] [] 0 0 0 0xFD 0x34

theorem witness_DecodeOfEncodeIsTheInstruction : (Instr.staAbx 0x1234).wellFormed = true := by decide

theorem witness_EncodeOfDecodeIsTheBytes : decode [0xA9, 0xFF, 0xEA] = .ok (.ldaImm 0xFF, [0xEA]) := rfl

theorem witness_ListedBytesRaiseDecodeFailure :
    (start 0x8000 [(0, 0x02)] [] 0 0 0 0xFD 0x34).fault = none ∧
    (start 0x8000 [(0, 0x02)] [] 0 0 0 0xFD 0x34).nmiRequest = false ∧
    (busRead 0x8000 (start 0x8000 [(0, 0x02)] [] 0 0 0 0xFD 0x34)).1 ∈ noEntryBytes := by decide

theorem witness_FetchReadsTheBytesInOrder :
    decodeOpcode (busRead 0x8000 (dmaState 0)).1 = some (.f1 .nop) ∧
    decodeOpcode (busRead 0x8000 ldaState).1 = some (.f2 .ldaImm) ∧
    decodeOpcode (busRead 0xFFFF (start 0xFFFF [(0x7FFF, 0xAD)] [] 0 0 0 0 0)).1 = some (.f3 .ldaAbs) ∧
    decodeOpcode (busRead 0x8000 (start 0x8000 [(0, 0x02)] [] 0 0 0 0xFD 0x34)).1 = none := ⟨rfl, rfl, rfl, rfl⟩

theorem lda_completes (s : State) : ∃ t, exec (.ldaImm 0xFF) s = .next t := ⟨_, rfl⟩

theorem witness_StepRunsTheDecodedInstruction :
    ldaState.fault = none ∧ ldaState.dmaLatch = 0x00 ∧ ldaState.nmiRequest = false ∧
    plainAddr ldaState.pc = true ∧ plainAddr (ldaState.pc + 1) = true ∧ plainAddr (ldaState.pc + 2) = true ∧
    decode (codeAt ldaState) = .ok (.ldaImm 0xFF, [0x00]) ∧
    ∃ t, exec (.ldaImm 0xFF)
      { begun ldaState with pc := ldaState.pc + BitVec.ofNat 16 (encode (.ldaImm 0xFF)).length } = .next t :=
  have hc : codeAt ldaState = [0xA9, 0xFF, 0x00] := by decide
  ⟨rfl, rfl, rfl, by decide, by decide, by decide, hc ▸ rfl, lda_completes _⟩

theorem nop_completes (s : State) : ∃ t, exec .nop s = .next t := ⟨_, rfl⟩

theorem fetches_nop (d : State) (h : (busRead d.pc d).1 = 0xEA) : ∃ u, fetchInstr d = .instr .nop u := by
  refine ⟨(busRead d.pc d).2.setPc (d.pc + 1), ?_⟩
  rw [fetchInstr, h]; rfl

theorem witness_StepDrainsFetchesExecutesThenTicks :
    (dmaState 0x02).fault = none ∧ (dmaState 0x02).nmiRequest = false ∧
    ∃ d u t, dmaDrain (begun (dmaState 0x02)) = .ok d ∧ fetchInstr d = .instr .nop u ∧ exec .nop u = .next t :=
  have ⟨u, h⟩ := fetches_nop ((dmaTransfer 0x02 { begun (dmaState 0x02) with dmaLatch := 0x00 }).charge
    Config.dmaStall) (by decide)
  have ⟨t, h'⟩ := nop_completes u
  ⟨rfl, rfl, _, u, t, drains _ (by decide) (by decide), h, h'⟩

theorem witness_PendingNmiIsTakenInPlaceOfAFetch :
    (nmiState 0xB5).fault = none ∧ (nmiState 0xB5).nmiRequest = true := by decide

/-- Every clause of the drain, at the ends of its range of pages. -/
theorem witness_DmaDrainCopiesThePageOrRaises :
    (dmaState 0x00).dmaLatch = 0x00 ∧
    (1 ≤ (dmaState 0x01).dmaLatch.toNat ∧ (dmaState 0x01).dmaLatch.toNat ≤ 7) ∧
    (1 ≤ (dmaState 0x07).dmaLatch.toNat ∧ (dmaState 0x07).dmaLatch.toNat ≤ 7) ∧
    8 ≤ (dmaState 0x08).dmaLatch.toNat ∧ 8 ≤ (dmaState 0xFF).dmaLatch.toNat := by decide

theorem witness_FaultedMachineTakesNoStep :
    { ldaState with fault := some (.decodeFailure 0x02 0x8000) : State }.fault =
      some (.decodeFailure 0x02 0x8000) := by decide

/-- A page outside work RAM; and a byte without an entry with no DMA request, and after a drain of page 2. -/
theorem witness_RaisingStepRecordsTheFault :
    ((dmaState 0x08).fault = none ∧ 8 ≤ (dmaState 0x08).dmaLatch.toNat) ∧
    ∀ page ∈ [0x00#8, 0x02#8], let s := { start 0x8000 [(0, 0x02)] [] 0 0 0 0xFD 0x34 with dmaLatch := page }
      s.fault = none ∧ s.nmiRequest = false ∧
        ∃ d, dmaDrain (begun s) = .ok d ∧ (busRead s.pc d).1 ∈ noEntryBytes := by
  refine ⟨by decide, fun page h => ?_⟩
  simp only [List.mem_cons, List.not_mem_nil, or_false] at h
  rcases h with rfl | rfl
  · exact ⟨rfl, rfl, _, rfl, by decide⟩
  · exact ⟨rfl, rfl, _, drains _ (by decide) (by decide), by decide⟩

theorem witness_DmaThenNmiInOneStep :
    ((nmiState 0xB5).fault = none ∧ (nmiState 0xB5).nmiRequest = true ∧ (nmiState 0xB5).dmaLatch = 0x00) ∧
    ∀ page ∈ [0x01#8, 0x07#8], let s := { nmiState 0xB5 with dmaLatch := page }
      s.fault = none ∧ s.nmiRequest = true ∧ 1 ≤ s.dmaLatch.toNat ∧ s.dmaLatch.toNat ≤ 7 := by decide

/-- A state with the invariant whose step answers a next state: `A9 FF` at `8000`. -/
theorem witness_StepKeepsTheInvariant : ldaState.Inv ∧ ∃ t, step ldaState = .next t :=
  ⟨⟨⟨by decide, by decide, by decide, by decide, by decide⟩, by decide, by decide, by decide, by decide, by decide,
    by decide⟩, _, rfl⟩

/-- A power-on with memories that are canonical and list something, an image that is accepted, and a machine with the
invariant. -/
theorem witness_ResetHasTheInvariant :
    (State.powerOn { Cartridge.blank with prg := [(0, 0xEA)] } [] [(0x07FF, 0x01)] [] []).MemoriesOk ∧
    CartImage.wellFormed { prg := List.replicate 0x8000 0xEA, chr := [], chrIsRam := true, mirrorH := false } = true ∧
    ldaState.Inv :=
  ⟨⟨by decide, by decide, by decide, by decide, by decide⟩,
    by unfold CartImage.wellFormed; rw [List.length_replicate]; rfl, witness_StepKeepsTheInvariant.1⟩

theorem witness_FrameCompletesAfter89342Ticks :
    ldaState.ppuCycle ≤ 340 ∧ ldaState.ppuLine ≤ 261 ∧ ldaState.frame = none ∧ 89341 < 89342 - position ldaState := by
  decide

theorem witness_PpuPositionAdvancesModuloTheFrame :
    let s := { ldaState with ppuLine := 261, ppuCycle := 340, vblank := true }
    (ldaState.ppuCycle ≤ 340 ∧ ldaState.ppuLine ≤ 261 ∧ ldaState.vblank = decide (241 ≤ ldaState.ppuLine)) ∧
    s.ppuCycle ≤ 340 ∧ s.ppuLine ≤ 261 ∧ s.vblank = decide (241 ≤ s.ppuLine) := by decide

/-- Each clause of the tick where they meet, each clause of the line boundary at its first and last line, and a line that no
other clause takes. -/
theorem witness_LineBoundaryEvents :
    ({ ldaState with ppuCycle := 339 : State }.ppuCycle < 340 ∧ 340 ≤ { ldaState with ppuCycle := 340 : State }.ppuCycle) ∧
    (∀ n ∈ [7, 239], { ldaState with ppuLine := n : State }.ppuLine + 1 ≤ 240 ∧ (n + 1) % 8 = 0) ∧
    { ldaState with ppuLine := 240 : State }.ppuLine = 240 ∧ { ldaState with ppuLine := 261 : State }.ppuLine = 261 ∧
    (∀ n ∈ [0, 238, 241, 247, 260], ¬ ({ ldaState with ppuLine := n : State }.ppuLine + 1 ≤ 240 ∧ (n + 1) % 8 = 0) ∧
      n ≠ 240 ∧ n ≠ 261) := by decide

theorem witness_FrameHasThirtyTileRows :
    ldaState.ppuLine = 0 ∧ ldaState.ppuCycle ≤ 340 ∧ ldaState.frame = none ∧
    (341 ≤ ldaState.ppuCycle + 341 ∧ ldaState.ppuCycle + 341 < 89342) ∧
    (341 ≤ ldaState.ppuCycle + 89341 ∧ ldaState.ppuCycle + 89341 < 89342) := by decide

theorem witness_ResetReinitialisesTheRegisters : ldaState.fault = none ∧
    { ldaState with fault := some (.decodeFailure 0x02 0x8000) : State }.fault ≠ none := by decide

/-- Every clause of the bus read and write at the first and last address of its range. -/
theorem witness_BusReadByRange :
    (0x0000#16).toNat ≤ 0x1FFF ∧ (0x1FFF#16).toNat ≤ 0x1FFF ∧
    (0x2000 ≤ (0x2000#16).toNat ∧ (0x2000#16).toNat ≤ 0x3FFF) ∧ (0x2000 ≤ (0x3FFF#16).toNat ∧ (0x3FFF#16).toNat ≤ 0x3FFF) ∧
    0x8000 ≤ (0x8000#16).toNat ∧ 0x8000 ≤ (0xFFFF#16).toNat ∧
    [0x4000#16, 0x4014#16, 0x4015#16, 0x4017#16, 0x7FFF#16].all
      (fun a => decide (0x4000 ≤ a.toNat ∧ a.toNat ≤ 0x7FFF ∧ a ≠ 0x4016)) = true := by decide

theorem witness_BusWriteByRange :
    (0x1FFF#16).toNat ≤ 0x1FFF ∧ (0x2000 ≤ (0x2000#16).toNat ∧ (0x3FFF#16).toNat ≤ 0x3FFF) ∧
    [0x4000#16, 0x4013#16, 0x4015#16, 0x4017#16, 0x7FFF#16, 0x8000#16, 0xFFFF#16].all
      (fun a => decide (0x4000 ≤ a.toNat ∧ a ≠ 0x4014 ∧ a ≠ 0x4016)) = true := by decide

/-- A mirror pair (`1FFF` and `07FF` are one byte), and an index inside `VRAM`. -/
theorem witness_RamReadsTheLatestWrite :
    (0x1FFF#16).toNat ≤ 0x1FFF ∧ (0x07FF#16).toNat ≤ 0x1FFF ∧ 0x1FFF#16 &&& 0x07FF#16 = 0x07FF#16 &&& 0x07FF#16 ∧
    0x1FFF < 0x2000 := by decide

theorem witness_RtiUndoesTheNmiEntry :
    (nmiState 0xB5).nmiRequest = true ∧ (nmiState 0xB5).flags.r = true ∧ ∃ t, cpuStep (nmiState 0xB5) = .ok t :=
  ⟨rfl, rfl, _, rfl⟩

theorem witness_InstructionsLeaveThePpuSideAlone : ∃ t, exec (.staAbs 0x4014) ldaState = .next t := ⟨_, rfl⟩

/-- STA is in none of the lists, so its state meets every clause at once. -/
theorem witness_FlagsChangeOnlyAsListed :
    (∃ t, exec (.staAbs 0x2000) ldaState = .next t) ∧ ldaState.flags.r = true ∧
    Mnemonic.sta ∉ [Mnemonic.lda, .ldx, .ldy, .tax, .txa, .tay, .tya, .tsx, .pla, .adc, .sbc, .cmp, .cpx, .cpy, .and,
      .ora, .eor, .inc, .dec, .inx, .iny, .dex, .dey, .asl, .lsr, .rol, .ror, .lax, .dcp, .isb, .slo, .rla, .sre,
      .rra, .bit, .plp, .rti] ∧
    Mnemonic.sta ∉ [Mnemonic.adc, .sbc, .isb, .rra, .bit, .clv, .plp, .rti] ∧
    Mnemonic.sta ∉ [Mnemonic.php, .brk, .plp, .rti] ∧ Mnemonic.sta ∉ [Mnemonic.sed, .cld, .plp, .rti] ∧
    Mnemonic.sta ∉ [Mnemonic.sei, .cli, .brk, .plp, .rti] ∧
    Mnemonic.sta ∉ [Mnemonic.adc, .sbc, .cmp, .cpx, .cpy, .asl, .lsr, .rol, .ror, .dcp, .isb, .slo, .rla, .sre, .rra,
      .clc, .sec, .plp, .rti] := ⟨⟨_, rfl⟩, rfl, by decide⟩

/-- ASL on memory is in none of the lists and is not in Accumulator mode, so its state meets every clause at once. -/
theorem witness_RegistersChangeOnlyAsListed :
    (∃ t, exec (.aslZp 0x10) ldaState = .next t) ∧ (Instr.aslZp 0x10).entry.mode ≠ .accumulator ∧
    (Instr.aslZp 0x10).entry.mnemonic ∉
      [Mnemonic.lda, .txa, .tya, .pla, .adc, .sbc, .and, .ora, .eor, .lax, .isb, .slo, .rla, .sre, .rra] ∧
    (Instr.aslZp 0x10).entry.mnemonic ∉ [Mnemonic.ldx, .tax, .tsx, .inx, .dex, .lax] ∧
    (Instr.aslZp 0x10).entry.mnemonic ∉ [Mnemonic.ldy, .tay, .iny, .dey] ∧
    (Instr.aslZp 0x10).entry.mnemonic ∉ [Mnemonic.txs, .pha, .pla, .php, .plp, .jsr, .rts, .rti, .brk] ∧
    (Instr.aslZp 0x10).entry.mnemonic ∉
      [Mnemonic.bcc, .bcs, .beq, .bne, .bmi, .bpl, .bvc, .bvs, .jmp, .jsr, .rts, .rti, .brk] :=
  ⟨⟨_, rfl⟩, by decide⟩

theorem plain_reads {i : Instr} {s : State} {l : List Word} (h : dataReads i s = l) (hl : l.all plainAddr = true) :
    ∀ a ∈ dataReads i s, plainAddr a = true := by rw [h]; exact List.all_eq_true.mp hl

/-- A load from ROM, a shift of `A`, a jump through a pointer in work RAM, and a jump to a device address. -/
theorem witness_NonStoringFormsKeepMemory :
    ((∃ t, exec (.ldaAbs 0xFFFF) ldaState = .next t) ∧ (Instr.ldaAbs 0xFFFF).entry.mnemonic ∉ storing ∧
      pushes (Instr.ldaAbs 0xFFFF).entry.mnemonic = 0 ∧ ∀ a ∈ dataReads (.ldaAbs 0xFFFF) ldaState, plainAddr a = true) ∧
    ((∃ t, exec .aslAcc ldaState = .next t) ∧ Instr.aslAcc.entry.mode = .accumulator ∧
      pushes Instr.aslAcc.entry.mnemonic = 0) ∧
    ((∃ t, exec (.jmpInd 0x02FF) ldaState = .next t) ∧ (Instr.jmpInd 0x02FF).entry.mnemonic ∉ storing ∧
      pushes (Instr.jmpInd 0x02FF).entry.mnemonic = 0 ∧ ∀ a ∈ dataReads (.jmpInd 0x02FF) ldaState, plainAddr a = true) ∧
    (∃ t, exec (.jmpAbs 0x4016) ldaState = .next t) ∧ (Instr.jmpAbs 0x4016).entry.mnemonic ∉ storing ∧
      pushes (Instr.jmpAbs 0x4016).entry.mnemonic = 0 ∧ ∀ a ∈ dataReads (.jmpAbs 0x4016) ldaState, plainAddr a = true :=
  ⟨⟨⟨_, rfl⟩, by decide, by decide, plain_reads (l := [0xFFFF]) rfl (by decide)⟩, ⟨⟨_, rfl⟩, by decide, by decide⟩,
    ⟨⟨_, rfl⟩, by decide, by decide, plain_reads (l := [0x02FF, 0x0200]) rfl (by decide)⟩,
    ⟨_, rfl⟩, by decide, by decide, plain_reads (l := []) rfl (by decide)⟩

/-- A store to RAM with an address outside it, and a read-modify-write of the DMA trigger. -/
theorem witness_StoringFormsKeepOtherMemory :
    ((∃ t, exec (.staAbs 0x0800) ldaState = .next t) ∧ (Instr.staAbs 0x0800).entry.mnemonic ∈ storing ∧
      addressingOf (.staAbs 0x0800) = some (.absolute 0x0800) ∧
      regionOf 0x0001 ≠ regionOf (resolve (.absolute 0x0800) ldaState).1 ∧
      (resolve (.absolute 0x0800) ldaState).1 ≠ 0x4014 ∧ plainAddr (resolve (.absolute 0x0800) ldaState).1 = true) ∧
    (∃ t, exec (.incAbs 0x4014) ldaState = .next t) ∧ (Instr.incAbs 0x4014).entry.mnemonic ∈ storing ∧
      addressingOf (.incAbs 0x4014) = some (.absolute 0x4014) ∧
      (∀ k, regionOf (resolve (.absolute 0x4014) ldaState).1 ≠ .ram k) :=
  ⟨⟨⟨_, rfl⟩, by decide, by decide, by decide, by decide, by decide⟩, ⟨_, rfl⟩, by decide, by decide,
    fun k h => Region.noConfusion h⟩

/-- BRK with `SP = FD` pushes at `01FD`, `01FC`, `01FB`; `01FE` is outside. -/
theorem witness_PushingFormsKeepOtherMemory :
    (∃ t, exec .brk ldaState = .next t) ∧ pushes Instr.brk.entry.mnemonic ≠ 0 ∧
    ∀ k < pushes Instr.brk.entry.mnemonic,
      regionOf 0x01FE#16 ≠ regionOf (0x0100#16 + (ldaState.sp - BitVec.ofNat 8 k).setWidth 16) :=
  ⟨⟨_, rfl⟩, by decide, by decide⟩


end Sys2Proof.Tests
end

section
/-! PROOFS. The fetch (spec 30_encoding R121, R124): `PC` is not on the bus, so the fetch's moves of `PC` between its reads
can all be put off to its end. -/

namespace Sys2Proof.Machine

open Sys2Proof.Claims

/-! ### Moves of `PC` and the bus -/

@[simp] theorem State.setPc_setPc (v w : Word) (s : State) : (s.setPc v).setPc w = s.setPc w := rfl

/-- No device sees `PC`, so a bus read and a move of `PC` commute. -/
@[simp] theorem busRead_setPc (addr v : Word) (s : State) :
    busRead addr (s.setPc v) = ((busRead addr s).1, (busRead addr s).2.setPc v) := by
  unfold busRead
  cases regionOf addr <;> rfl

@[simp] theorem fetchByte_setPc (v : Word) (s : State) :
    fetchByte (s.setPc v) = ((busRead v s).1, (busRead v s).2.setPc (v + 1)) := by
  simp [fetchByte]

/-- The model's `hi ++ lo` is the word the statements weigh byte by byte. -/
theorem wordOf_eq_join (hi lo : Byte) : wordOf hi lo = join hi lo := by
  apply BitVec.eq_of_toNat_eq
  rw [wordOf_toNat, join, BitVec.toNat_ofNat]
  omega

/-! ### The fetch, one equation per format of the opcode's entry -/

section
variable {s : State}

theorem fetchInstr_of_f1 {i : Instr} (h : decodeOpcode (busRead s.pc s).1 = some (.f1 i)) :
    fetchInstr s = .instr i ((busRead s.pc s).2.setPc (s.pc + 1)) := by
  simp only [fetchInstr, h]

theorem fetchInstr_of_f2 {mk : Byte → Instr} (h : decodeOpcode (busRead s.pc s).1 = some (.f2 mk)) :
    let b1 := busRead (s.pc + 1) (busRead s.pc s).2
    fetchInstr s = .instr (mk b1.1) (b1.2.setPc (s.pc + 2)) := by
  have h2 : s.pc + 1 + 1 = s.pc + 2 := BitVec.add_assoc s.pc 1 1
  simp only [fetchInstr, h, fetchByte_setPc, h2]

theorem fetchInstr_of_f3 {mk : Word → Instr} (h : decodeOpcode (busRead s.pc s).1 = some (.f3 mk)) :
    let b1 := busRead (s.pc + 1) (busRead s.pc s).2
    let b2 := busRead (s.pc + 2) b1.2
    fetchInstr s = .instr (mk (join b2.1 b1.1)) (b2.2.setPc (s.pc + 3)) := by
  have h2 : s.pc + 1 + 1 = s.pc + 2 := BitVec.add_assoc s.pc 1 1
  have h3 : s.pc + 2 + 1 = s.pc + 3 := BitVec.add_assoc s.pc 2 1
  simp only [fetchInstr, h, fetchByte_setPc, h2, h3, wordOf_eq_join]

theorem fetchInstr_of_none (h : decodeOpcode (busRead s.pc s).1 = none) :
    fetchInstr s = .noEntry (busRead s.pc s).1 (busRead s.pc s).2 := by
  simp only [fetchInstr, h]

end

/-- Settles O5: one clause per format of the opcode's entry, and one for a byte without an entry. -/
theorem fetchReadsTheBytesInOrder : Obligations.FetchReadsTheBytesInOrder := by
  intro s op b1 b2
  exact ⟨fun _ => fetchInstr_of_f1, fun _ => fetchInstr_of_f2, fun _ => fetchInstr_of_f3, fetchInstr_of_none⟩

end Sys2Proof.Machine
end

section
/-! PROOFS. What one instruction can do (spec 30_encoding R121), said once by mnemonic; from it, what every instruction
leaves alone. -/

namespace Sys2Proof.Machine

/-! ### The effect of each mnemonic -/

/-- The forms an instruction's meaning is built from, with what fills each form. -/
inductive Effect where
  | read (use : Byte → State → State)
  | store (value : State → Byte)
  | modify (f : Byte → Flags → Byte × Flags) (andThen : Byte → State → State)
  | branch (taken : Flags → Bool)
  | jump
  | call
  | implied (f : State → State)

/-- What a mnemonic does, whatever its addressing mode (R171 to R298). -/
def effectOf : Mnemonic → Effect
  | .lda => .read useLoadA
  | .ldx => .read useLoadX
  | .ldy => .read useLoadY
  | .lax => .read useLoadAX
  | .adc => .read useAdd
  | .sbc => .read useSubtract
  | .cmp => .read useCompareA
  | .cpx => .read useCompareX
  | .cpy => .read useCompareY
  | .and => .read useAnd
  | .ora => .read useOr
  | .eor => .read useXor
  | .bit => .read useBitTest
  | .sta => .store State.a
  | .stx => .store State.x
  | .sty => .store State.y
  | .sax => .store fun t => t.a &&& t.x
  | .inc => .modify incByte useSetZN
  | .dec => .modify decByte useSetZN
  | .asl => .modify aslByte useSetZN
  | .lsr => .modify lsrByte useSetZN
  | .rol => .modify rolByte useSetZN
  | .ror => .modify rorByte useSetZN
  | .dcp => .modify decByte useCompareA
  | .isb => .modify incByte useSubtract
  | .slo => .modify aslByte useOr
  | .rla => .modify rolByte useAnd
  | .sre => .modify lsrByte useXor
  | .rra => .modify rorByte useAdd
  | .bcc => .branch fun f => !f.c
  | .bcs => .branch fun f => f.c
  | .beq => .branch fun f => f.z
  | .bne => .branch fun f => !f.z
  | .bmi => .branch fun f => f.n
  | .bpl => .branch fun f => !f.n
  | .bvc => .branch fun f => !f.v
  | .bvs => .branch fun f => f.v
  | .jmp => .jump
  | .jsr => .call
  | .rts => .implied returnFromSubroutine
  | .rti => .implied returnFromInterrupt
  | .brk => .implied breakSequence
  | .pha => .implied fun s => push s.a s
  | .pla => .implied pullA
  | .php => .implied pushStatus
  | .plp => .implied pullStatus
  | .tax => .implied fun s => useLoadX s.a s
  | .txa => .implied fun s => useLoadA s.x s
  | .tay => .implied fun s => useLoadY s.a s
  | .tya => .implied fun s => useLoadA s.y s
  | .tsx => .implied fun s => useLoadX s.sp s
  | .txs => .implied fun s => s.setSp s.x
  | .inx => .implied fun s => useLoadX (s.x + 1) s
  | .iny => .implied fun s => useLoadY (s.y + 1) s
  | .dex => .implied fun s => useLoadX (s.x - 1) s
  | .dey => .implied fun s => useLoadY (s.y - 1) s
  | .clc => .implied fun s => s.setFlags { s.flags with c := false }
  | .sec => .implied fun s => s.setFlags { s.flags with c := true }
  | .cli => .implied fun s => s.setFlags { s.flags with i := false }
  | .sei => .implied fun s => s.setFlags { s.flags with i := true }
  | .clv => .implied fun s => s.setFlags { s.flags with v := false }
  | .cld => .implied fun s => s.setFlags { s.flags with d := false }
  | .sed => .implied fun s => s.setFlags { s.flags with d := true }
  | .nop => .implied fun s => s

/-- `e.Leads mode s t`: an instruction with effect `e` in addressing mode `mode` may take `s` to `t`. -/
inductive Effect.Leads (s : State) : Effect → Mode → State → Prop where
  | read {use mode} (src : Source) (cost : Nat) : Leads s (.read use) mode (withOperand src cost use s)
  | store {value mode} (m : Addressing) (cost : Nat) : Leads s (.store value) mode (storeAt m cost value s)
  | modifyA {f andThen} (cost : Nat) : Leads s (.modify f andThen) .accumulator (modifyA f cost s)
  | modify {f andThen mode} (m : Addressing) (cost : Nat) :
      Leads s (.modify f andThen) mode (modifyAt f m cost andThen s)
  | branch {taken mode} (d : Byte) (cost : Nat) : Leads s (.branch taken) mode (Machine.branch (taken s.flags) d cost s)
  | jump {mode} (m : Addressing) (cost : Nat) : Leads s .jump mode ((jumpTo m s).charge cost)
  | call {mode} (w : Word) (cost : Nat) : Leads s .call mode ((callSubroutine w s).charge cost)
  | implied {f mode} (cost : Nat) : Leads s (.implied f) mode ((f s).charge cost)

/-- Every instruction completes, with its mnemonic's effect. -/
theorem exec_leads (i : Instr) (s : State) :
    ∃ t, exec i s = .next t ∧ (effectOf i.entry.mnemonic).Leads s i.entry.mode t := by
  cases i <;> exact ⟨_, rfl, by constructor⟩

theorem leads_of_exec {i : Instr} {s t : State} (h : exec i s = .next t) :
    (effectOf i.entry.mnemonic).Leads s i.entry.mode t := by
  obtain ⟨t', ht', hl⟩ := exec_leads i s
  cases ht'.symm.trans h
  exact hl

/-! ### What the forms leave alone -/

/-- An operand reaches its use as a byte, on a machine that only the device read has touched. -/
theorem withOperand_frame (src : Source) (cost : Nat) (use : Byte → State → State) (s : State) :
    ∃ b u n, ReadFrame s u ∧ withOperand src cost use s = (use b u).charge n :=
  ⟨_, _, _, readOperand_frame src s, rfl⟩

theorem storeAt_frame (m : Addressing) (cost : Nat) (value : State → Byte) (s : State) :
    ∃ u, WriteFrame s u ∧ storeAt m cost value s = u.charge cost :=
  ⟨_, (resolve_frame m s).toWrite.trans (busWrite_frame _ _ _), rfl⟩

/-- The flags of a read-modify-write are those its byte function gives for the byte it read (R220). -/
theorem readModifyWrite_flags (f : Byte → Flags → Byte × Flags) (m : Addressing) (s : State) :
    ∃ old, (readModifyWrite f m s).2.flags = (f old s.flags).2 := by
  obtain ⟨_, _, _, _, _, hread⟩ := (resolve_frame m s).trans (busRead_frame (resolve m s).1 _)
  refine ⟨(busRead (resolve m s).1 (resolve m s).2).1, ?_⟩
  simp only [readModifyWrite, hread]
  obtain ⟨_, _, _, _, _, _, _, hwrite⟩ := busWrite_frame (resolve m s).1 _ _
  rw [hwrite]
  rfl

theorem modifyAt_frame (f : Byte → Flags → Byte × Flags) (m : Addressing) (cost : Nat)
    (andThen : Byte → State → State) (s : State) :
    ∃ old b u, WriteFrame (s.setFlags (f old s.flags).2) u ∧
      modifyAt f m cost andThen s = (andThen b u).charge cost := by
  obtain ⟨old, hflags⟩ := readModifyWrite_flags f m s
  exact ⟨old, _, _, hflags ▸ readModifyWrite_frame f m s, rfl⟩

/-- A branch moves `PC`, or not, and charges its cost (R250). -/
theorem branch_eq (taken : Bool) (d : Byte) (cost : Nat) (s : State) :
    ∃ w n, branch taken d cost s = (s.setPc w).charge n := by
  simp only [branch]
  split
  · split <;> exact ⟨_, _, rfl⟩
  · exact ⟨s.pc, _, rfl⟩

theorem jumpTo_frame (m : Addressing) (s : State) : ∃ w u, ReadFrame s u ∧ jumpTo m s = u.setPc w :=
  ⟨_, _, resolve_frame m s, rfl⟩

@[simp] theorem returnFromSubroutine_eq (s : State) :
    returnFromSubroutine s = { s with
      sp := s.sp + 1 + 1
      pc := wordOf (s.ram.read (0x100 + (s.sp + 1 + 1).toNat)) (s.ram.read (0x100 + (s.sp + 1).toNat)) + 1 } := by
  rw [returnFromSubroutine, popWord_eq]
  rfl

@[simp] theorem pullA_eq (s : State) :
    pullA s = useLoadA (s.ram.read (0x100 + (s.sp + 1).toNat)) (s.setSp (s.sp + 1)) := by
  rw [pullA, pop_eq]
  rfl

@[simp] theorem pushStatus_eq (s : State) :
    pushStatus s = { s with
      ram := s.ram.write (0x100 + s.sp.toNat) (getP { s.flags with b := true })
      sp := s.sp - 1
      flags := { s.flags with b := true } } := by
  rw [pushStatus, push_eq]
  rfl

@[simp] theorem pullStatus_eq (s : State) :
    pullStatus s = { s with flags := setP (s.ram.read (0x100 + (s.sp + 1).toNat)), sp := s.sp + 1 } := by
  rw [pullStatus, pop_eq]
  rfl

/-- All BRK does (R264): the three pushes and the break flag always, `I` and the vector only when `I` was clear. -/
@[simp] theorem breakSequence_eq (s : State) :
    breakSequence s = { s with
      ram := ((s.ram.write (0x100 + s.sp.toNat) (hiByte (s.pc + 1))).write (0x100 + (s.sp - 1).toNat)
        (loByte (s.pc + 1))).write (0x100 + (s.sp - 1 - 1).toNat) (getP { s.flags with b := true })
      sp := s.sp - 1 - 1 - 1
      flags := { s.flags with b := true, i := true }
      pc := if s.flags.i then s.pc else wordOf (s.cart.romByte 0x7FFF) (s.cart.romByte 0x7FFE) } := by
  unfold breakSequence
  split
  · next hi => simp [pushFrame_eq, State.setFlags, hi]
  · next =>
    rw [enterInterrupt_eq (by decide) (by decide)]
    rfl

/-! ### The PPU side -/

/-- What no instruction may write: the NMI request, the PPU's counters, flag and background, the cartridge, the recorded
fault and the frame output. -/
def State.ppuSide (s : State) :
    Bool × Nat × Nat × Bool × List TileRow × Cartridge × Option Fault × Option Frame × Nat :=
  (s.nmiRequest, s.ppuCycle, s.ppuLine, s.vblank, s.background, s.cart, s.fault, s.frame, s.frameNo)

theorem WriteFrame.ppuSide {s t : State} (h : WriteFrame s t) : t.ppuSide = s.ppuSide := by
  obtain ⟨_, _, _, _, _, _, _, rfl⟩ := h
  rfl

/-- Using an operand byte touches the CPU's registers only. -/
theorem use_ppuSide {m : Mnemonic} {use : Byte → State → State}
    (h : effectOf m = .read use ∨ ∃ f, effectOf m = .modify f use) (b : Byte) (s : State) :
    (use b s).ppuSide = s.ppuSide := by
  obtain h | ⟨f, h⟩ := h <;> cases m <;> cases h <;> rfl

theorem implied_ppuSide {m : Mnemonic} {f : State → State} (h : effectOf m = .implied f) (s : State) :
    (f s).ppuSide = s.ppuSide := by
  cases m <;> cases h <;>
    simp only [breakSequence_eq, returnFromInterrupt_eq, returnFromSubroutine_eq, pullA_eq, pullStatus_eq,
      pushStatus_eq, push_eq] <;> rfl

theorem Effect.Leads.ppuSide {m : Mnemonic} {mode : Mode} {s t : State} (h : (effectOf m).Leads s mode t) :
    t.ppuSide = s.ppuSide := by
  generalize he : effectOf m = e at h
  cases h with
  | read src cost =>
    obtain ⟨b, u, n, hu, ht⟩ := withOperand_frame src cost _ s
    rw [ht]
    exact (use_ppuSide (.inl he) b u).trans hu.toWrite.ppuSide
  | store a cost =>
    obtain ⟨u, hu, ht⟩ := storeAt_frame a cost _ s
    rw [ht]
    exact hu.ppuSide
  | modifyA cost => rfl
  | modify a cost =>
    obtain ⟨old, b, u, hu, ht⟩ := modifyAt_frame _ a cost _ s
    rw [ht]
    exact (use_ppuSide (.inr ⟨_, he⟩) b u).trans hu.ppuSide
  | branch d cost =>
    obtain ⟨w, n, ht⟩ := branch_eq _ d cost s
    rw [ht]
    rfl
  | jump a cost => exact (resolve_frame a s).toWrite.ppuSide
  | call w cost =>
    rw [callSubroutine, pushWord_eq]
    rfl
  | implied cost => exact implied_ppuSide he s

/-- Settles O55: no form an instruction is built from reaches the PPU side. -/
theorem instructionsLeaveThePpuSideAlone : Obligations.InstructionsLeaveThePpuSideAlone := by
  intro i s t h
  simpa only [State.ppuSide, Prod.mk.injEq] using (leads_of_exec h).ppuSide

/-! ### Registers and flags -/

/-- The uses of an operand byte, in the named updates of the state. -/
theorem uses_eq (v : Byte) (s : State) :
    useLoadA v s = (s.setA v).setZN v ∧ useLoadX v s = (s.setX v).setZN v ∧ useLoadY v s = (s.setY v).setZN v ∧
    useLoadAX v s = ((s.setA v).setX v).setZN v ∧
    useAdd v s = (s.setA (addCore s.a v s.flags).1).setFlags (addCore s.a v s.flags).2 ∧
    useSubtract v s = useAdd (v ^^^ 0xFF#8) s ∧
    useCompareA v s = s.setFlags (compareFlags s.a v s.flags) ∧
    useCompareX v s = s.setFlags (compareFlags s.x v s.flags) ∧
    useCompareY v s = s.setFlags (compareFlags s.y v s.flags) ∧
    useAnd v s = useLoadA (s.a &&& v) s ∧ useOr v s = useLoadA (s.a ||| v) s ∧ useXor v s = useLoadA (s.a ^^^ v) s ∧
    useBitTest v s = s.setFlags (bitTest s.a v s.flags) ∧ useSetZN v s = s.setZN v :=
  ⟨rfl, rfl, rfl, rfl, rfl, rfl, rfl, rfl, rfl, rfl, rfl, rfl, rfl, rfl⟩

/-- Settles O57: an operand's use writes the register its mnemonic names; the implied forms and control transfers
write `SP` and `PC`. -/
theorem registersChangeOnlyAsListed : Obligations.RegistersChangeOnlyAsListed := by
  intro i s t h m
  have hl : (effectOf m).Leads s i.entry.mode t := leads_of_exec h
  clear_value m
  generalize i.entry.mode = mode at hl ⊢
  generalize he : effectOf m = e at hl
  cases hl with
  | read src cost =>
    obtain ⟨b, _, n, ⟨_, _, _, _, _, rfl⟩, ht⟩ := withOperand_frame src cost _ s
    rw [ht]
    cases m <;> cases he <;> simp [uses_eq]
  | store a cost =>
    obtain ⟨_, ⟨_, _, _, _, _, _, _, rfl⟩, ht⟩ := storeAt_frame a cost _ s
    rw [ht]
    simp
  | modifyA cost => simp [modifyA]
  | modify a cost =>
    obtain ⟨old, b, _, ⟨_, _, _, _, _, _, _, rfl⟩, ht⟩ := modifyAt_frame _ a cost _ s
    rw [ht]
    cases m <;> cases he <;> simp [uses_eq]
  | branch d cost =>
    obtain ⟨w, n, ht⟩ := branch_eq _ d cost s
    rw [ht]
    cases m <;> cases he <;> simp
  | jump a cost =>
    obtain ⟨w, _, ⟨_, _, _, _, _, rfl⟩, ht⟩ := jumpTo_frame a s
    rw [ht]
    cases m <;> cases he
    simp
  | call w cost =>
    rw [callSubroutine, pushWord_eq]
    cases m <;> cases he
    simp
  | implied cost =>
    cases m <;> cases he <;> simp [uses_eq, push_eq, returnFromInterrupt_eq]

/-- Settles O56: the uses and the byte functions write the flags R31 lists; SetP and the others keep `R`
(R32). -/
theorem flagsChangeOnlyAsListed : Obligations.FlagsChangeOnlyAsListed := by
  intro i s t h m znWriters
  have hl : (effectOf m).Leads s i.entry.mode t := leads_of_exec h
  clear_value m
  subst znWriters
  generalize i.entry.mode = mode at hl
  generalize he : effectOf m = e at hl
  cases hl with
  | read src cost =>
    obtain ⟨b, _, n, ⟨_, _, _, _, _, rfl⟩, ht⟩ := withOperand_frame src cost _ s
    rw [ht]
    cases m <;> cases he <;> simp [uses_eq, setZN, addCore, compareFlags, bitTest]
  | store a cost =>
    obtain ⟨_, ⟨_, _, _, _, _, _, _, rfl⟩, ht⟩ := storeAt_frame a cost _ s
    rw [ht]
    simp
  | modifyA cost =>
    cases m <;> cases he <;> simp [modifyA, setZN, incByte, decByte, aslByte, lsrByte, rolByte, rorByte]
  | modify a cost =>
    obtain ⟨old, b, _, ⟨_, _, _, _, _, _, _, rfl⟩, ht⟩ := modifyAt_frame _ a cost _ s
    rw [ht]
    cases m <;> cases he <;>
      simp [uses_eq, setZN, addCore, compareFlags, incByte, decByte, aslByte, lsrByte, rolByte, rorByte]
  | branch d cost =>
    obtain ⟨w, n, ht⟩ := branch_eq _ d cost s
    rw [ht]
    simp
  | jump a cost =>
    obtain ⟨w, _, ⟨_, _, _, _, _, rfl⟩, ht⟩ := jumpTo_frame a s
    rw [ht]
    simp
  | call w cost => simp [callSubroutine, pushWord_eq]
  | implied cost =>
    cases m <;> cases he <;> simp [uses_eq, push_eq, returnFromInterrupt_eq, setZN, setP]

end Sys2Proof.Machine
end

section
/-! PROOFS. Power-on and reset (spec 10_state R60, 70_reset_and_hazards R380), and the status byte (R34, R35). -/

namespace Sys2Proof.Machine

open Sys2Proof.Claims

/-! ### Reset -/

/-- All a reset does (R380), on a machine that runs: the vector lies in program ROM, so reading it touches no device. -/
theorem resetCpu_eq {s : State} (h : s.fault = none) :
    resetCpu s = .ok { s with
      a := 0x00, x := 0x00, y := 0x00, sp := 0xFD, flags := Flags.canonical
      pc := wordOf (s.cart.romByte 0x7FFD) (s.cart.romByte 0x7FFC) } := by
  simp only [resetCpu, h]
  rw [readVector_rom (by decide) (by decide)]
  rfl

/-- Settles O22: the reset vector of the blank cartridge is the word State.reset names. -/
theorem resetStateIsPowerOnThenReset : Obligations.ResetStateIsPowerOnThenReset :=
  ⟨resetCpu_eq rfl, fun _ _ _ _ _ =>
    ⟨rfl, rfl, rfl, rfl, rfl, rfl, rfl, rfl, rfl, rfl, rfl, rfl, rfl, rfl, rfl, rfl, rfl, rfl⟩⟩

/-! ### The invariant -/

theorem powerOn_inv {cart : Cartridge} {chr ram vram oam : Memory}
    (h : (State.powerOn cart chr ram vram oam).MemoriesOk) : (State.powerOn cart chr ram vram oam).Inv where
  memories := h
  cycle := show 0 < Config.cyclesPerLine by decide
  line := show 0 < Config.linesPerFrame by decide
  vblank := rfl
  background := Nat.zero_le _
  reserved := rfl
  running := rfl

theorem ofBytes_wf_within (bs : List Byte) {n : Nat} (h : bs.length = n) :
    (Memory.ofBytes bs).wf = true ∧ (Memory.ofBytes bs).within n = true :=
  ⟨Memory.wf_ofBytesFrom bs 0, by simpa [Memory.ofBytes, h] using Memory.within_ofBytesFrom bs 0⟩

theorem restrict_wf_within (n : Nat) (m : Memory) : (m.restrict n).wf = true ∧ (m.restrict n).within n = true :=
  ⟨Memory.wf_restrict n m, Memory.within_restrict n m⟩

/-- An accepted image fills the program ROM of the size power-on takes from it (D14). -/
theorem prgSize_of_wellFormed {image : CartImage} (h : image.wellFormed = true) :
    image.prg.length = (if image.prg.length = 0x4000 then PrgSize.k16 else .k32).bytes := by
  simp only [CartImage.wellFormed, Bool.or_eq_true, beq_iff_eq] at h
  split
  · assumption
  · next hne => exact h.resolve_left hne

theorem powerOnImage_inv {image : CartImage} (ram vram oam : List Byte) (h : image.wellFormed = true) :
    ∃ s, powerOnImage image ram vram oam = .ok s ∧ s.Inv := by
  refine ⟨_, if_pos h, powerOn_inv ⟨?_, ?_, ?_, ?_, ?_⟩⟩
  · exact restrict_wf_within Config.ramSize _
  · exact restrict_wf_within Config.vramSize _
  · exact restrict_wf_within Config.oamSize _
  · exact ofBytes_wf_within image.chr rfl
  · exact ofBytes_wf_within image.prg (prgSize_of_wellFormed h)

/-- Reset writes registers only, and sets the reserved flag (R32, R380). -/
theorem resetCpu_inv {s : State} (h : s.Inv) : ∃ t, resetCpu s = .ok t ∧ t.Inv :=
  ⟨_, resetCpu_eq h.running,
    { memories := h.memories.congr rfl rfl rfl rfl rfl
      cycle := h.cycle
      line := h.line
      vblank := h.vblank
      background := h.background
      reserved := rfl
      running := h.running }⟩

/-- Settles O15: State.reset has the invariant as the reset of a power-on that has it. -/
theorem resetHasTheInvariant : Obligations.ResetHasTheInvariant := by
  refine ⟨fun _ _ _ _ _ => powerOn_inv, fun _ ram vram oam => powerOnImage_inv ram vram oam, fun _ => resetCpu_inv, ?_⟩
  have hblank : (State.powerOn Cartridge.blank [] [] [] []).MemoriesOk :=
    ⟨⟨rfl, rfl⟩, ⟨rfl, rfl⟩, ⟨rfl, rfl⟩, ⟨rfl, rfl⟩, ⟨rfl, rfl⟩⟩
  obtain ⟨t, ht, hinv⟩ := resetCpu_inv (powerOn_inv hblank)
  cases ht.symm.trans resetStateIsPowerOnThenReset.1
  exact hinv

/-! ### The status byte -/

/-- A flag's byte holds the flag at bit 0 and nothing above. -/
@[simp] theorem getElem_flagBit (p : Bool) (k : Nat) (h : k < 8) : (flagBit p)[k] = (decide (k = 0) && p) := by
  cases p <;> simp [flagBit, BitVec.getElem_one]

/-- `GetP()` bit by bit (R34). -/
theorem getP_bits (f : Flags) :
    (getP f)[7] = f.n ∧ (getP f)[6] = f.v ∧ (getP f)[5] = true ∧ (getP f)[4] = f.b ∧
    (getP f)[3] = f.d ∧ (getP f)[2] = f.i ∧ (getP f)[1] = f.z ∧ (getP f)[0] = f.c := by
  simp [getP]

/-- The status byte weighs the flags as its bits stand: a fact about the 256 flag settings. -/
theorem getP_eq_statusByte : ∀ f : Flags, getP f = statusByte f := by
  rintro ⟨n, v, r, b, d, i, z, c⟩
  revert n v r b d i z c
  decide

theorem setP_getP (f : Flags) : setP (getP f) = { f with r := true } := by
  simp [setP, getP_bits]

theorem getP_setP (p : Byte) : getP (setP p) = p ||| 0x20#8 := by
  obtain ⟨h7, h6, h5, h4, h3, h2, h1, h0⟩ := getP_bits (setP p)
  apply BitVec.eq_of_getElem_eq
  intro k hk
  match k, hk with
  | 0, _ => exact h0.trans (by simp [setP])
  | 1, _ => exact h1.trans (by simp [setP])
  | 2, _ => exact h2.trans (by simp [setP])
  | 3, _ => exact h3.trans (by simp [setP])
  | 4, _ => exact h4.trans (by simp [setP])
  | 5, _ => exact h5.trans (by simp)
  | 6, _ => exact h6.trans (by simp [setP])
  | 7, _ => exact h7.trans (by simp [setP])

/-- Settles O31: assembling and decomposing agree bit by bit. -/
theorem statusByteRoundTrip : Obligations.StatusByteRoundTrip :=
  ⟨getP_eq_statusByte, fun p => ⟨getP_setP p, rfl⟩, setP_getP⟩

end Sys2Proof.Machine
end

section
/-! PROOFS. The bus by address range (spec 20_memory R80 to R86), and a RAM read after a RAM write (R86, R100). -/

namespace Sys2Proof.Machine

open Sys2Proof.Claims

/-! ### The address decoder, range by range -/

/-- The register port's window (R82): the low three bits select the register. -/
theorem regionOf_port {addr : Word} (h : Config.ramWindowEnd ≤ addr.toNat) (h' : addr.toNat < Config.ppuWindowEnd) :
    regionOf addr = .port (BitVec.ofNat 3 (addr.toNat % 8)) := by
  have hreg : addr.extractLsb' 0 3 = BitVec.ofNat 3 (addr.toNat % 8) :=
    BitVec.eq_of_toNat_eq (by simp)
  rw [regionOf, if_neg (by omega), if_pos h', hreg]

/-- Between the port's window and program ROM, every address but the two registers' is unmapped (R83, R84). -/
theorem regionOf_unmapped {addr : Word} (h : Config.ppuWindowEnd ≤ addr.toNat) (h' : addr.toNat < Config.romBase)
    (hdma : addr ≠ 0x4014) (hkey : addr ≠ 0x4016) : regionOf addr = .unmapped := by
  have hdma' : addr.toNat ≠ Config.dmaAddr := fun he => hdma (BitVec.eq_of_toNat_eq he)
  have hkey' : addr.toNat ≠ Config.keypadAddr := fun he => hkey (BitVec.eq_of_toNat_eq he)
  simp only [Config.ppuWindowEnd] at h
  rw [regionOf, if_neg (by simp only [Config.ramWindowEnd]; omega), if_neg (by simp only [Config.ppuWindowEnd]; omega),
    if_neg hdma', if_neg hkey', if_neg (by omega)]

/-- Only its own address selects the DMA trigger (R83). -/
theorem eq_dmaAddr_of_regionOf {addr : Word} (h : regionOf addr = .dmaTrigger) : addr = 0x4014 := by
  unfold regionOf at h
  split at h
  · cases h
  · split at h
    · cases h
    · split at h
      · next hdma => exact BitVec.eq_of_toNat_eq hdma
      · split at h
        · cases h
        · split at h <;> cases h

/-- The mirrors of work RAM (R86): `addr & 0x07FF` is the address modulo the device's size. -/
theorem ramMask_toNat (addr : Word) : (addr &&& 0x07FF#16).toNat = addr.toNat % Config.ramSize :=
  (BitVec.toNat_and ..).trans (Nat.and_two_pow_sub_one_eq_mod addr.toNat 11)

/-- Settles O23: one clause per region of the address decoder; what is left of `4000..7FFF` is the DMA trigger or unmapped. -/
theorem busReadByRange : Obligations.BusReadByRange := by
  intro addr s
  refine ⟨fun h => ?_, fun h h' => ?_, fun h => ?_, fun h => busRead_rom h, fun h h' hkey => ?_⟩
  · rw [ramMask_toNat, busRead_ram (Nat.lt_succ_of_le h)]
  · simp only [busRead, regionOf_port h (Nat.lt_succ_of_le h')]
    rfl
  · subst h
    rfl
  · by_cases hdma : addr = 0x4014
    · subst hdma
      rfl
    · simp only [busRead, regionOf_unmapped h (Nat.lt_succ_of_le h') hdma hkey]

/-- Settles O24: one clause per region of the address decoder; above the port's window only the two registers are written. -/
theorem busWriteByRange : Obligations.BusWriteByRange := by
  intro addr v s
  refine ⟨fun h => ?_, fun h h' => ?_, fun h => ?_, fun h => ?_, fun h hdma hkey => ?_⟩
  · rw [ramMask_toNat, busWrite_ram (Nat.lt_succ_of_le h)]
  · simp only [busWrite, regionOf_port h (Nat.lt_succ_of_le h')]
    rfl
  · subst h
    rfl
  · subst h
    rfl
  · by_cases hrom : addr.toNat < Config.romBase
    · simp only [busWrite, regionOf_unmapped h hrom hdma hkey]
    · simp only [busWrite, regionOf_rom (Nat.le_of_not_lt hrom), romWriteAttempt_eq]

/-- Settles O25: the two addresses name one byte exactly when their masked addresses agree. -/
theorem ramReadsTheLatestWrite : Obligations.RamReadsTheLatestWrite := by
  refine ⟨fun p q v s hp hq => ?_, fun m size i hi => by rw [Memory.read_restrict, if_pos hi]⟩
  have hbyte : q.toNat % Config.ramSize = p.toNat % Config.ramSize ↔ p &&& 0x07FF#16 = q &&& 0x07FF#16 := by
    rw [BitVec.toNat_eq, ramMask_toNat, ramMask_toNat, eq_comm]
  rw [busWrite_ram (Nat.lt_succ_of_le hp), busRead_ram (Nat.lt_succ_of_le hq), busRead_ram (Nat.lt_succ_of_le hq)]
  simp only [Memory.read_write, hbyte]

end Sys2Proof.Machine
end

section
/-! PROOFS. What one instruction can do at the address of its operand (spec 30_encoding R123, 40_addressing_modes R150 to
R162), said once by mnemonic. -/

namespace Sys2Proof.Machine

open Sys2Proof.Claims

theorem hiByte_eq_upper (w : Word) : hiByte w = upper w := by
  apply BitVec.eq_of_toNat_eq
  rw [hiByte, upper, BitVec.extractLsb'_toNat, BitVec.toNat_ofNat, Nat.shiftRight_eq_div_pow]

/-- The two bytes of format F3 are the operand word's (R124). -/
@[simp] theorem join_hiByte_loByte (w : Word) : join (hiByte w) (loByte w) = w := by
  rw [← wordOf_eq_join, wordOf_hiByte_loByte]

/-- `e.LeadsAt a s t`: an instruction with effect `e` whose memory operand or jump target is addressed by `a`, if it has
one, may take `s` to `t`; `Leads` with the addressing in place of the mode. -/
inductive Effect.LeadsAt (s : State) : Effect → Option Addressing → State → Prop where
  | immediate {use} (v : Byte) (cost : Nat) : LeadsAt s (.read use) none (withOperand (.imm v) cost use s)
  | read {use} (m : Addressing) (cost : Nat) : LeadsAt s (.read use) (some m) (withOperand (.mem m) cost use s)
  | store {value} (m : Addressing) (cost : Nat) : LeadsAt s (.store value) (some m) (storeAt m cost value s)
  | modifyA {f andThen} (cost : Nat) : LeadsAt s (.modify f andThen) none (modifyA f cost s)
  | modify {f andThen} (m : Addressing) (cost : Nat) :
      LeadsAt s (.modify f andThen) (some m) (modifyAt f m cost andThen s)
  | branch {taken} (d : Byte) (cost : Nat) :
      LeadsAt s (.branch taken) none (Machine.branch (taken s.flags) d cost s)
  | jump (m : Addressing) (cost : Nat) : LeadsAt s .jump (some m) ((jumpTo m s).charge cost)
  | call (w : Word) (cost : Nat) : LeadsAt s .call (some (.absolute w)) ((callSubroutine w s).charge cost)
  | implied {f} (cost : Nat) : LeadsAt s (.implied f) none ((f s).charge cost)

/-- Every instruction completes, with its mnemonic's effect at its addressing. -/
theorem exec_leadsAt (i : Instr) (s : State) :
    ∃ t, exec i s = .next t ∧ (effectOf i.entry.mnemonic).LeadsAt s (addressingOf i) t := by
  cases i <;> simp only [addressingOf, Instr.entry, encode, encodeWord, join_hiByte_loByte] <;>
    exact ⟨_, rfl, by constructor⟩

theorem leadsAt_of_exec {i : Instr} {s t : State} (h : exec i s = .next t) :
    (effectOf i.entry.mnemonic).LeadsAt s (addressingOf i) t := by
  obtain ⟨t', ht', hl⟩ := exec_leadsAt i s
  cases ht'.symm.trans h
  exact hl

/-- In Accumulator mode there is no memory operand (R151). -/
theorem addressingOf_accumulator {i : Instr} (h : i.entry.mode = .accumulator) : addressingOf i = none := by
  simp [addressingOf, h]

/-- Only JMP has the indirect form (R162), so no other instruction's resolution changes anything. -/
theorem resolve_state_of_ne_jmp {i : Instr} {m : Addressing} (s : State) (hm : addressingOf i = some m)
    (h : i.entry.mnemonic ≠ .jmp) : (resolve m s).2 = s := by
  refine resolve_state s fun w hw => ?_
  subst hw
  cases i <;> simp [addressingOf, Instr.entry, encode, encodeWord] at hm h

end Sys2Proof.Machine
end

section
/-! PROOFS. The memory frames of the forms that store and of those that store nothing (spec 20_memory R92, R93, 44 R220). -/

namespace Sys2Proof.Machine

open Sys2Proof.Claims

/-! ### The two sides of memory -/

/-- What `busByte` and the DMA read: work RAM, program ROM and the latch. -/
def State.busSide (s : State) : Memory × Cartridge × Byte := (s.ram, s.cart, s.dmaLatch)

/-- What only a port or keypad access may change: the fields of `SameDevices`. -/
def State.deviceSide (s : State) : PortState × KeyState × Memory × Memory × Memory :=
  (s.port, s.keypad, s.vram, s.chr, s.oam)

/-- Both sides, which no register update reaches. -/
def State.memory (s : State) :
    (Memory × Cartridge × Byte) × PortState × KeyState × Memory × Memory × Memory :=
  (s.busSide, s.deviceSide)

theorem memory_eq_iff {s t : State} :
    t.memory = s.memory ↔ t.busSide = s.busSide ∧ t.deviceSide = s.deviceSide := by
  simp only [State.memory, Prod.mk.injEq]

theorem sameDevices_of_deviceSide {s t : State} (h : t.deviceSide = s.deviceSide) : SameDevices s t := by
  simpa only [State.deviceSide, Prod.mk.injEq, SameDevices] using h

theorem busSide_eq_iff {s t : State} :
    t.busSide = s.busSide ↔ t.ram = s.ram ∧ t.cart = s.cart ∧ t.dmaLatch = s.dmaLatch := by
  simp only [State.busSide, Prod.mk.injEq]

theorem busByte_congr {s t : State} (hram : t.ram = s.ram) (hcart : t.cart = s.cart) (b : Word) :
    busByte b t = busByte b s := by
  simp only [busByte, hram, hcart]

theorem ReadFrame.busSide {s t : State} (h : ReadFrame s t) : t.busSide = s.busSide := by
  obtain ⟨_, _, _, _, _, rfl⟩ := h
  rfl

/-- Using an operand byte touches the CPU's registers only. -/
theorem use_memory {m : Mnemonic} {use : Byte → State → State}
    (h : effectOf m = .read use ∨ ∃ f, effectOf m = .modify f use) (b : Byte) (s : State) :
    (use b s).memory = s.memory := by
  obtain h | ⟨f, h⟩ := h <;> cases m <;> cases h <;> rfl

/-- An implied form that pushes nothing may read the stack, and writes registers only. -/
theorem implied_memory {m : Mnemonic} {f : State → State} (h : effectOf m = .implied f) (hpush : pushes m = 0)
    (s : State) : (f s).memory = s.memory := by
  cases m <;> cases hpush <;> cases h <;>
    simp only [returnFromInterrupt_eq, returnFromSubroutine_eq, pullA_eq, pullStatus_eq] <;> rfl

/-! ### Forms that store at their effective address -/

/-- `t` differs from `s` in memory at the byte, latch or device that `a` selects, if at all. -/
structure StoresOnlyAt (a : Word) (s t : State) : Prop where
  bus : ∀ b : Word, regionOf b ≠ regionOf a → busByte b t = busByte b s
  ram : ∀ k, regionOf a ≠ .ram k → t.ram.read k = s.ram.read k
  latch : a ≠ 0x4014 → t.dmaLatch = s.dmaLatch
  devices : plainAddr a = true → t.deviceSide = s.deviceSide

theorem StoresOnlyAt.trans {a : Word} {s t u : State} (h : StoresOnlyAt a s t) (h' : StoresOnlyAt a t u) :
    StoresOnlyAt a s u where
  bus b hb := (h'.bus b hb).trans (h.bus b hb)
  ram k hk := (h'.ram k hk).trans (h.ram k hk)
  latch ha := (h'.latch ha).trans (h.latch ha)
  devices ha := (h'.devices ha).trans (h.devices ha)

theorem storesOnlyAt_of_busSide {a : Word} {s t : State} (hbus : t.busSide = s.busSide)
    (hdev : plainAddr a = true → t.deviceSide = s.deviceSide) : StoresOnlyAt a s t := by
  obtain ⟨hram, hcart, hlatch⟩ := busSide_eq_iff.mp hbus
  exact ⟨fun b _ => busByte_congr hram hcart b, fun k _ => by rw [hram], fun _ => hlatch, hdev⟩

theorem storesOnlyAt_of_memory {a : Word} {s t : State} (h : t.memory = s.memory) : StoresOnlyAt a s t :=
  storesOnlyAt_of_busSide (memory_eq_iff.mp h).1 fun _ => (memory_eq_iff.mp h).2

theorem busRead_storesOnlyAt (a : Word) (s : State) : StoresOnlyAt a s (busRead a s).2 :=
  storesOnlyAt_of_busSide (busRead_frame a s).busSide fun ha => by rw [busRead_plain ha]

/-- A bus write reaches the addressed device only (R81). -/
theorem busWrite_storesOnlyAt (a : Word) (v : Byte) (s : State) : StoresOnlyAt a s (busWrite a v s) := by
  unfold busWrite
  split
  · next i hr =>
    have hread (k : Nat) (hk : regionOf a ≠ .ram k) : (s.ram.write i v).read k = s.ram.read k :=
      Memory.read_write_ne s.ram v fun hki => hk (hki ▸ hr)
    refine ⟨fun b hb => ?_, hread, fun _ => rfl, fun _ => rfl⟩
    cases hb' : regionOf b with
    | ram k => simpa only [busByte, hb'] using hread k fun hk => hb (hb'.trans hk.symm)
    | _ => simp only [busByte, hb']
  · next r hr => exact storesOnlyAt_of_busSide rfl fun ha => by simp [plainAddr, hr] at ha
  · next hr => exact ⟨fun _ _ => rfl, fun _ _ => rfl, fun ha => absurd (eq_dmaAddr_of_regionOf hr) ha, fun _ => rfl⟩
  · next hr => exact storesOnlyAt_of_busSide rfl fun ha => by simp [plainAddr, hr] at ha
  · exact storesOnlyAt_of_busSide rfl fun _ => rfl
  · exact storesOnlyAt_of_busSide rfl fun _ => rfl

theorem readModifyWrite_storesOnlyAt (f : Byte → Flags → Byte × Flags) {m : Addressing} {s : State}
    (hres : (resolve m s).2 = s) : StoresOnlyAt (resolve m s).1 s (readModifyWrite f m s).2 := by
  simp only [readModifyWrite, hres]
  have hflags (g : Flags) : StoresOnlyAt (resolve m s).1 s ((busRead (resolve m s).1 s).2.setFlags g) :=
    (busRead_storesOnlyAt _ s).trans (storesOnlyAt_of_memory rfl)
  exact (hflags _).trans (busWrite_storesOnlyAt _ _ _)

/-- The mnemonics that write at their effective address store a register or modify the byte there. -/
theorem mem_storing_iff {m : Mnemonic} :
    m ∈ storing ↔ (∃ value, effectOf m = .store value) ∨ ∃ f use, effectOf m = .modify f use := by
  cases m <;> simp [storing, effectOf]

/-- A form that stores writes at its effective address, after at most a read there (R93, R220). -/
theorem storing_storesOnlyAt {i : Instr} {s t : State} {m : Addressing} (h : exec i s = .next t)
    (hst : i.entry.mnemonic ∈ storing) (hm : addressingOf i = some m) : StoresOnlyAt (resolve m s).1 s t := by
  have hres : (resolve m s).2 = s :=
    resolve_state_of_ne_jmp s hm fun hj => absurd (hj ▸ hst) (by decide)
  have hl := leadsAt_of_exec h
  obtain ⟨value, he⟩ | ⟨f, use, he⟩ := mem_storing_iff.mp hst
  · rw [he, hm] at hl
    cases hl with | store m cost =>
    simp only [storeAt, hres]
    exact (busWrite_storesOnlyAt _ _ s).trans (storesOnlyAt_of_memory rfl)
  · rw [he, hm] at hl
    cases hl with | modify m cost =>
    have huse := use_memory (.inr ⟨f, he⟩) (readModifyWrite f m s).1 (readModifyWrite f m s).2
    exact (readModifyWrite_storesOnlyAt f hres).trans (storesOnlyAt_of_memory huse)

/-- Settles O59: a read and a write at the effective address, and register updates, are all a storing form does. -/
theorem storingFormsKeepOtherMemory : Obligations.StoringFormsKeepOtherMemory := by
  intro i s t m h hst hm
  obtain ⟨hbus, hram, hlatch, hdev⟩ := storing_storesOnlyAt h hst hm
  exact ⟨hbus, hram, hlatch, fun ha => sameDevices_of_deviceSide (hdev ha)⟩

/-! ### Forms that store nothing -/

theorem getElem_wordOf (hi lo : Byte) {k : Nat} (hk : k < 16) :
    (wordOf hi lo)[k] = if h : k < 8 then lo[k] else hi[k - 8] :=
  BitVec.getElem_append (x := hi) (y := lo) hk

/-- Masking and joining: the upper byte of one word with the lower byte of another. -/
theorem upper_or_lower (w u : Word) : (w &&& 0xFF00#16) ||| (u &&& 0x00FF#16) = wordOf (hiByte w) (loByte u) := by
  have hmaskHi : ∀ k (hk : k < 16), (0xFF00#16)[k] = !decide (k < 8) := by decide
  have hmaskLo : ∀ k (hk : k < 16), (0x00FF#16)[k] = decide (k < 8) := by decide
  apply BitVec.eq_of_getElem_eq
  intro k hk
  rw [BitVec.getElem_or, BitVec.getElem_and, BitVec.getElem_and, hmaskHi k hk, hmaskLo k hk, getElem_wordOf _ _ hk]
  by_cases h : k < 8
  · simp [h, loByte, BitVec.getLsbD_eq_getElem hk]
  · simp [h, hiByte, BitVec.getLsbD_eq_getElem hk, show 8 + (k - 8) = k by omega]

/-- The second byte of JMP's pointer is read in the pointer's own page (R162). -/
theorem samePage_next (w : Word) :
    (w &&& 0xFF00#16) ||| ((w + 1) &&& 0x00FF#16) = join (upper w) (BitVec.ofNat 8 (w.toNat % 256 + 1)) := by
  have hlo : loByte (w + 1) = BitVec.ofNat 8 (w.toNat % 256 + 1) := by
    apply BitVec.eq_of_toNat_eq
    simp [loByte]
  rw [upper_or_lower, wordOf_eq_join, hiByte_eq_upper, hlo]

/-- A pointer in plain memory is read without side effect (R74). -/
theorem resolve_indirect_state {w : Word} {s : State} (h : plainAddr w = true)
    (h' : plainAddr (join (upper w) (BitVec.ofNat 8 (w.toNat % 256 + 1))) = true) :
    (resolve (.indirectAbsolute w) s).2 = s := by
  simp only [resolve, samePagePointer, samePage_next, busRead_plain h, busRead_plain h']

/-- All an instruction but JMP reads is its operand (R92, R93). -/
theorem dataReads_operand {i : Instr} {m : Addressing} (s : State) (hm : addressingOf i = some m)
    (h : i.entry.mnemonic ≠ .jmp) : dataReads i s = [(resolve m s).1] := by
  unfold dataReads
  split <;> simp_all

/-- A jump reads at most its pointer, never its target (R157, R259). -/
theorem resolve_state_of_jmp {i : Instr} {m : Addressing} {s : State} (hm : addressingOf i = some m)
    (hj : i.entry.mnemonic = .jmp) (h : ∀ a ∈ dataReads i s, plainAddr a = true) : (resolve m s).2 = s := by
  cases m with
  | indirectAbsolute w =>
    simp only [dataReads, hm, hj, List.forall_mem_cons] at h
    obtain ⟨hlo, hhi, _⟩ := h
    exact resolve_indirect_state hlo hhi
  | _ => exact resolve_state s nofun

theorem withOperand_mem (use : Byte → State → State) (cost : Nat) {m : Addressing} {s : State}
    (hres : (resolve m s).2 = s) : withOperand (.mem m) cost use s =
      (use (busRead (resolve m s).1 s).1 (busRead (resolve m s).1 s).2).charge cost := by
  simp [withOperand, readOperand, hres]

/-- What stores and pushes nothing keeps work RAM and the latch, and the devices its data reads do not touch. -/
theorem nonStoring_memory {i : Instr} {s t : State} (h : exec i s = .next t)
    (hst : i.entry.mnemonic ∉ storing ∨ i.entry.mode = .accumulator) (hpush : pushes i.entry.mnemonic = 0) :
    t.busSide = s.busSide ∧ ((∀ a ∈ dataReads i s, plainAddr a = true) → t.deviceSide = s.deviceSide) := by
  have hst' {m : Addressing} (hm : addressingOf i = some m) : i.entry.mnemonic ∉ storing :=
    hst.resolve_right fun ha => by simp [addressingOf_accumulator ha] at hm
  have of_memory {t : State} (ht : t.memory = s.memory) :
      t.busSide = s.busSide ∧ ((∀ a ∈ dataReads i s, plainAddr a = true) → t.deviceSide = s.deviceSide) :=
    ⟨(memory_eq_iff.mp ht).1, fun _ => (memory_eq_iff.mp ht).2⟩
  have hl := leadsAt_of_exec h
  generalize he : effectOf i.entry.mnemonic = e at hl
  generalize hm : addressingOf i = a at hl
  cases hl with
  | immediate v cost => exact of_memory (use_memory (.inl he) v s)
  | read m cost =>
    have hj : i.entry.mnemonic ≠ .jmp := fun hj => by cases hj ▸ he
    have hres := resolve_state_of_ne_jmp s hm hj
    have huse := use_memory (.inl he) (busRead (resolve m s).1 s).1 (busRead (resolve m s).1 s).2
    obtain ⟨hbus, hdev⟩ := memory_eq_iff.mp huse
    rw [withOperand_mem _ cost hres, dataReads_operand s hm hj]
    refine ⟨hbus.trans (busRead_frame _ s).busSide, fun hp => hdev.trans ?_⟩
    rw [busRead_plain (hp _ (List.mem_singleton_self _))]
  | store m cost => exact absurd (mem_storing_iff.mpr (.inl ⟨_, he⟩)) (hst' hm)
  | modifyA cost => exact of_memory rfl
  | modify m cost => exact absurd (mem_storing_iff.mpr (.inr ⟨_, _, he⟩)) (hst' hm)
  | branch d cost =>
    obtain ⟨w, n, ht⟩ := branch_eq _ d cost s
    rw [ht]
    exact of_memory rfl
  | jump m cost =>
    have hj : i.entry.mnemonic = .jmp := by
      generalize i.entry.mnemonic = mn at he
      cases mn <;> cases he
      rfl
    exact ⟨(resolve_frame m s).busSide, fun hp => (congrArg State.deviceSide (resolve_state_of_jmp hm hj hp) :)⟩
  | call w cost =>
    generalize i.entry.mnemonic = mn at he hpush
    cases mn <;> cases he
    cases hpush
  | implied cost => exact of_memory (implied_memory he hpush s)

/-- Settles O58: the forms that are left read their operand or JMP's pointer, or update registers. -/
theorem nonStoringFormsKeepMemory : Obligations.NonStoringFormsKeepMemory := by
  intro i s t h hst hpush
  obtain ⟨hbus, hdev⟩ := nonStoring_memory h hst hpush
  obtain ⟨hram, hcart, hlatch⟩ := busSide_eq_iff.mp hbus
  exact ⟨busByte_congr hram hcart, fun k => by rw [hram], hlatch, fun hp => sameDevices_of_deviceSide (hdev hp)⟩

end Sys2Proof.Machine
end

section
/-! PROOFS. The encoding (spec 30_encoding R122, R124, R131): an opcode byte's entry, the operand bytes that follow and the
instruction they make, said once; decoding and encoding both follow it. -/

namespace Sys2Proof

open Machine

/-! ### An entry, its operand bytes and its instruction -/

/-- `f.Makes i args`: the operand bytes `args` complete the entry `f` to the instruction `i` (R124). -/
inductive Format.Makes : Format → Instr → List Byte → Prop where
  | f1 (i : Instr) : Makes (.f1 i) i []
  | f2 (mk : Byte → Instr) (b : Byte) : Makes (.f2 mk) (mk b) [b]
  | f3 (mk : Word → Instr) (w : Word) : Makes (.f3 mk) (mk w) [loByte w, hiByte w]

/-- An instruction's bytes are an opcode byte and the operand bytes that complete its entry to the instruction. -/
theorem encode_makes (i : Instr) :
    ∃ op f args, encode i = op :: args ∧ decodeOpcode op = some f ∧ f.Makes i args := by
  cases i <;> exact ⟨_, _, _, rfl, rfl, by constructor⟩

/-- An opcode byte opens the encoding of every instruction its entry can make: a fact about each place of the matrix. -/
theorem encode_of_makes {op : Byte} {f : Format} {i : Instr} {args : List Byte} (h : decodeOpcode op = some f)
    (hm : f.Makes i args) : encode i = op :: args := by
  have hop : op = BitVec.ofNat 8 (16 * (op.toNat / 16) + op.toNat % 16) := by
    rw [Nat.div_add_mod, BitVec.ofNat_toNat, BitVec.setWidth_eq]
  rw [hop]
  unfold decodeOpcode at h
  generalize op.toNat / 16 = row at h ⊢
  generalize op.toNat % 16 = column at h ⊢
  split at h
  case h_17 => cases h
  all_goals
    simp only [matrixRow0, matrixRow1, matrixRow2, matrixRow3, matrixRow4, matrixRow5, matrixRow6, matrixRow7,
      matrixRow8, matrixRow9, matrixRowA, matrixRowB, matrixRowC, matrixRowD, matrixRowE, matrixRowF] at h
    split at h <;> cases h <;> cases hm <;> rfl

/-! ### What the decoder reads -/

theorem decode_of_makes {op : Byte} {f : Format} {i : Instr} {args : List Byte} (h : decodeOpcode op = some f)
    (hm : f.Makes i args) (rest : List Byte) : decode (op :: args ++ rest) = .ok (i, rest) := by
  cases hm <;> simp [decode, h]

/-- Whatever the decoder reads is an opcode byte with an entry and the operand bytes that complete it. -/
theorem makes_of_decode {bytes rest : List Byte} {i : Instr} (h : decode bytes = .ok (i, rest)) :
    ∃ op f args, bytes = op :: args ++ rest ∧ decodeOpcode op = some f ∧ f.Makes i args := by
  unfold decode at h
  split at h
  · cases h
  next op tail =>
  split at h
  · cases h
  · next hop =>
    cases h
    exact ⟨op, _, [], rfl, hop, .f1 i⟩
  · next mk hop =>
    split at h <;> cases h
    next d => exact ⟨op, _, [d], rfl, hop, .f2 mk d⟩
  · next mk hop =>
    split at h <;> cases h
    next lo hi =>
    have hm := Format.Makes.f3 mk (wordOf hi lo)
    rw [loByte_wordOf, hiByte_wordOf] at hm
    exact ⟨op, _, [lo, hi], rfl, hop, hm⟩

theorem decode_encode (i : Instr) (rest : List Byte) : decode (encode i ++ rest) = .ok (i, rest) := by
  obtain ⟨op, f, args, henc, hop, hm⟩ := encode_makes i
  rw [henc]
  exact decode_of_makes hop hm rest

/-- Settles O2: an instruction's operand bytes complete the entry of its opcode byte. -/
theorem decodeOfEncodeIsTheInstruction : Obligations.DecodeOfEncodeIsTheInstruction :=
  fun i rest _ => decode_encode i rest

/-- Settles O3: the bytes read complete an entry, and an entry's opcode byte opens the encoding of what it makes. -/
theorem encodeOfDecodeIsTheBytes : Obligations.EncodeOfDecodeIsTheBytes := by
  intro bytes rest i h
  obtain ⟨op, f, args, hbytes, hop, hm⟩ := makes_of_decode h
  rw [hbytes, encode_of_makes hop hm]

/-- Settles O1: each word is its instruction's encoding; the last two open with a byte without an entry. -/
theorem sampleWordsDecode : Obligations.SampleWordsDecode :=
  ⟨decode_encode (.ldaImm 0xFF) [], decode_encode (.staAbs 0x4014) [], decode_encode .pha [],
    decode_encode (.adcIzy 0x86) [], decode_encode .aslAcc [0xEA], decode_encode (.bitAbs 0x0200) [],
    decode_encode (.beq 0x20) [], decode_encode (.jmpInd 0x02FF) [], decode_encode (.jsr 0x8010) [],
    decode_encode .brk [], decode_encode .clc [], decode_encode (.saxZpy 0x10) [],
    decode_encode (.rraIzy 0x20) [], rfl, rfl⟩

end Sys2Proof
end

section
/-! PROOFS. The step by its parts (spec 30_encoding R121, R132; 60_exceptions R370): the fetch of what the decoder reads, the
raise of a byte without an entry, and the machine step around them. -/

namespace Sys2Proof.Machine

open Sys2Proof.Claims

section
variable {s d t u : State} {i : Instr}

/-! ### The CPU step -/

theorem cpuStep_of_fetch (hf : s.fault = none) (hn : s.nmiRequest = false) (h : fetchInstr s = .instr i u)
    (hx : exec i u = .next t) : cpuStep s = .ok t := by
  simp [cpuStep, runCpu, hf, hn, h, hx]

/-- A byte without an entry raises, on the machine its own read leaves (R132, R311). -/
theorem cpuStep_of_noEntry (hf : s.fault = none) (hn : s.nmiRequest = false)
    (h : decodeOpcode (busRead s.pc s).1 = none) :
    cpuStep s = .raised (.decodeFailure (busRead s.pc s).1 s.pc) (busRead s.pc s).2 := by
  simp [cpuStep, runCpu, hf, hn, fetchInstr_of_none h]

/-- The places of the opcode matrix without an entry are the bytes of R132: a fact about the 256 bytes. -/
theorem decodeOpcode_eq_none_iff : ∀ op : Byte, decodeOpcode op = none ↔ op ∈ noEntryBytes := by
  decide

/-! ### The machine step -/

/-- From plain memory the fetch takes the instruction the decoder reads there, and moves `PC` past its bytes (R124). -/
theorem fetchInstr_of_decode {rest : List Byte} (h0 : plainAddr s.pc = true) (h1 : plainAddr (s.pc + 1) = true)
    (h2 : plainAddr (s.pc + 2) = true) (h : decode (codeAt s) = .ok (i, rest)) :
    fetchInstr s = .instr i (s.setPc (s.pc + BitVec.ofNat 16 (encode i).length)) := by
  obtain ⟨op, f, args, hbytes, hop, hm⟩ := makes_of_decode h
  rw [encode_of_makes hop hm]
  cases hm with
  | f1 i =>
    obtain ⟨rfl, -⟩ := List.cons.inj hbytes
    rw [fetchInstr_of_f1 (i := i) (by rwa [busRead_plain h0]), busRead_plain h0]
    rfl
  | f2 mk b =>
    simp only [codeAt, List.cons_append, List.cons.injEq] at hbytes
    obtain ⟨rfl, rfl, -⟩ := hbytes
    rw [fetchInstr_of_f2 (mk := mk) (by rwa [busRead_plain h0]), busRead_plain h0, busRead_plain h1]
    rfl
  | f3 mk w =>
    simp only [codeAt, List.cons_append, List.cons.injEq] at hbytes
    obtain ⟨rfl, hlo, hhi, -⟩ := hbytes
    rw [fetchInstr_of_f3 (mk := mk) (by rwa [busRead_plain h0]), busRead_plain h0, busRead_plain h1, busRead_plain h2,
      hlo, hhi, join_hiByte_loByte]
    rfl

theorem step_of_cpuStep (hf : s.fault = none) (hd : dmaDrain (begun s) = .ok d) (h : cpuStep d = .ok t) :
    step s = .next (ppuRun (3 * t.cycles) t) := by
  have hb : beginStep (Config.hostKeys s.frameNo) s = begun s := rfl
  simp only [step, machineStep, hf, hb, hd, h]

theorem dmaDrain_of_latch_zero (h : s.dmaLatch = 0x00) : dmaDrain s = .ok s := if_pos h

end

/-- Settles O4: the fetch of a listed byte finds no entry. -/
theorem listedBytesRaiseDecodeFailure : Obligations.ListedBytesRaiseDecodeFailure :=
  ⟨rfl, decodeOpcode_eq_none_iff, fun _ hf hn h => cpuStep_of_noEntry hf hn ((decodeOpcode_eq_none_iff _).mpr h)⟩

/-- Settles O6: with nothing pending the drain and the head of the step leave the code and `PC` alone, so the fetch takes
the instruction decoded. -/
theorem stepRunsTheDecodedInstruction : Obligations.StepRunsTheDecodedInstruction := by
  intro s t i rest hf hd hn h0 h1 h2 hdec hx
  have hfetch : fetchInstr (begun s) = .instr i ((begun s).setPc (s.pc + BitVec.ofNat 16 (encode i).length)) :=
    fetchInstr_of_decode (s := begun s) h0 h1 h2 hdec
  exact step_of_cpuStep hf (dmaDrain_of_latch_zero hd) (cpuStep_of_fetch hf hn hfetch hx)

end Sys2Proof.Machine
end

section
/-! PROOFS. The cost of an instruction (spec 30_encoding R126, R131, 45_control_flow_flags R250): the base cost of its opcode
byte, and the extra of a taken branch. -/

namespace Sys2Proof.Machine

open Sys2Proof.Claims

/-! ### The target of a branch and its page -/

/-- The model's sign extension is the signed offset the statements add (R153). -/
theorem branchTarget_eq_target (d : Byte) (s : State) : branchTarget d s = target s.pc d := by
  rw [target, BitVec.ofInt_add, BitVec.ofInt_natCast, BitVec.ofNat_toNat, BitVec.setWidth_eq]
  rfl

theorem hiByte_toNat (w : Word) : (hiByte w).toNat = w.toNat / 256 := by
  rw [hiByte, BitVec.extractLsb'_toNat, Nat.shiftRight_eq_div_pow]
  omega

/-- Two addresses lie in one page when their upper bytes agree (R19). -/
theorem samePage_iff {p q : Word} : samePage p q = true ↔ p.toNat / 256 = q.toNat / 256 := by
  have hmask (w : Word) : w &&& 0xFF00#16 = wordOf (hiByte w) 0 := by simpa [loByte] using upper_or_lower w 0
  rw [samePage, beq_iff_eq, hmask, hmask, ← hiByte_toNat, ← hiByte_toNat, ← BitVec.toNat_eq]
  exact ⟨fun h => by simpa using congrArg hiByte h, fun h => by rw [h]⟩

/-! ### The cycles each form charges -/

/-- An instruction with effect `e`, base cost `cost` and bytes `bytes` may take `s` to `t`: `Leads` with what the cost
depends on in place of the mode. -/
inductive Effect.LeadsIn (s : State) (cost : Nat) : Effect → List Byte → State → Prop where
  | read {use bytes} (src : Source) : LeadsIn s cost (.read use) bytes (withOperand src cost use s)
  | store {value bytes} (m : Addressing) : LeadsIn s cost (.store value) bytes (storeAt m cost value s)
  | modifyA {f andThen bytes} : LeadsIn s cost (.modify f andThen) bytes (modifyA f cost s)
  | modify {f andThen bytes} (m : Addressing) : LeadsIn s cost (.modify f andThen) bytes (modifyAt f m cost andThen s)
  | branch {taken} (op d : Byte) : LeadsIn s cost (.branch taken) [op, d] (Machine.branch (taken s.flags) d cost s)
  | jump {bytes} (m : Addressing) : LeadsIn s cost .jump bytes ((jumpTo m s).charge cost)
  | call {bytes} (w : Word) : LeadsIn s cost .call bytes ((callSubroutine w s).charge cost)
  | implied {f bytes} : LeadsIn s cost (.implied f) bytes ((f s).charge cost)

/-- Every instruction completes, with its mnemonic's effect at its table row's cost. -/
theorem exec_leadsIn (i : Instr) (s : State) :
    ∃ t, exec i s = .next t ∧ (effectOf i.entry.mnemonic).LeadsIn s i.entry.cycles (encode i) t := by
  cases i <;> exact ⟨_, rfl, by constructor⟩

theorem WriteFrame.cycles {s t : State} (h : WriteFrame s t) : t.cycles = s.cycles := by
  obtain ⟨_, _, _, _, _, _, _, rfl⟩ := h
  rfl

theorem use_cycles {m : Mnemonic} {use : Byte → State → State}
    (h : effectOf m = .read use ∨ ∃ f, effectOf m = .modify f use) (b : Byte) (s : State) :
    (use b s).cycles = s.cycles := by
  obtain h | ⟨f, h⟩ := h <;> cases m <;> cases h <;> rfl

theorem implied_cycles {m : Mnemonic} {f : State → State} (h : effectOf m = .implied f) (s : State) :
    (f s).cycles = s.cycles := by
  cases m <;> cases h <;>
    simp only [breakSequence_eq, returnFromInterrupt_eq, returnFromSubroutine_eq, pullA_eq, pullStatus_eq,
      pushStatus_eq, push_eq] <;> rfl

/-- A branch's cost by the page of its target (R250). -/
theorem branch_cycles (taken : Bool) (d : Byte) (cost : Nat) (s : State) :
    (branch taken d cost s).cycles = s.cycles + cost +
      if taken then if (target s.pc d).toNat / 256 = s.pc.toNat / 256 then 1 else 2 else 0 := by
  cases taken with
  | false => rfl
  | true =>
    simp only [branch, branchTarget_eq_target, samePage_iff, if_true]
    split <;> rfl

/-- The condition of a branch; none for every other effect. -/
def Effect.condition : Effect → Flags → Option Bool
  | .branch taken, f => some (taken f)
  | _, _ => none

/-- The statements' branch conditions (R251 to R258) are the model's. -/
theorem branchCondition_eq (m : Mnemonic) (f : Flags) : branchCondition m f = (effectOf m).condition f := by
  cases m <;> rfl

theorem Effect.LeadsIn.cycles {i : Instr} {cost : Nat} {s t : State}
    (h : (effectOf i.entry.mnemonic).LeadsIn s cost (encode i) t) : t.cycles = s.cycles + cost + extraCycles i s := by
  rw [extraCycles, branchCondition_eq]
  generalize encode i = bytes at h ⊢
  generalize he : effectOf i.entry.mnemonic = e at h ⊢
  cases h with
  | read src =>
    obtain ⟨_, _, _, _, _, hread⟩ := readOperand_frame src s
    simp [withOperand, use_cycles (.inl he), hread, Effect.condition]
  | store m =>
    obtain ⟨u, hu, ht⟩ := storeAt_frame m cost _ s
    rw [ht]
    exact congrArg (· + cost) hu.cycles
  | modifyA => rfl
  | modify m =>
    obtain ⟨_, b, u, hu, ht⟩ := modifyAt_frame _ m cost _ s
    rw [ht]
    exact congrArg (· + cost) ((use_cycles (.inr ⟨_, he⟩) b u).trans hu.cycles)
  | @branch taken op d =>
    rw [branch_cycles, Effect.condition]
    cases taken s.flags <;> rfl
  | jump m => exact congrArg (· + cost) (resolve_frame m s).toWrite.cycles
  | call w =>
    rw [callSubroutine, pushWord_eq]
    rfl
  | implied => exact congrArg (· + cost) (implied_cycles he s)

/-! ### The bounds of a cost -/

/-- An instruction's base cost is the entry of `CYCLES` for its opcode byte (R8, R126). -/
theorem entry_cycles_eq (i : Instr) :
    ∃ op args, encode i = op :: args ∧ i.entry.cycles = Config.baseCycles op.toNat := by
  cases i <;> exact ⟨_, _, rfl, rfl⟩

/-- Every opcode byte with an entry costs 2 to 8 cycles (R133): a fact about the 256 bytes. -/
theorem baseCycles_bounds : ∀ op : Byte, decodeOpcode op ≠ none →
    2 ≤ Config.baseCycles op.toNat ∧ Config.baseCycles op.toNat ≤ 8 := by
  decide

theorem entry_cycles_bounds (i : Instr) : 2 ≤ i.entry.cycles ∧ i.entry.cycles ≤ 8 := by
  obtain ⟨op, args, henc, hcost⟩ := entry_cycles_eq i
  obtain ⟨op', f, args', henc', hop, _⟩ := encode_makes i
  obtain ⟨rfl, _⟩ := List.cons.inj (henc.symm.trans henc')
  rw [hcost]
  exact baseCycles_bounds op (by simp [hop])

theorem entry_cycles_of_branch {i : Instr} {f : Flags} {c : Bool}
    (h : branchCondition i.entry.mnemonic f = some c) : i.entry.cycles = 2 := by
  cases i <;> cases h <;> rfl

/-- Only a branch has an extra, of at most 2 on its base cost of 2 (R250). -/
theorem extraCycles_bound (i : Instr) (s : State) :
    extraCycles i s = 0 ∨ i.entry.cycles = 2 ∧ extraCycles i s ≤ 2 := by
  unfold extraCycles
  split
  · next hcond _ => exact .inr ⟨entry_cycles_of_branch hcond, by split <;> decide⟩
  · exact .inl rfl

/-- Settles O13: every form charges its table row's cost, and a branch its extra. -/
theorem everyInstructionCompletesAtItsCost : Obligations.EveryInstructionCompletesAtItsCost := by
  intro i s
  obtain ⟨t, ht, hl⟩ := exec_leadsIn i s
  have hbase := entry_cycles_bounds i
  have hextra := extraCycles_bound i s
  exact ⟨t, ht, hl.cycles, by omega, by omega⟩

end Sys2Proof.Machine
end

section
/-! PROOFS. The addressing modes (spec 40_addressing_modes R154 to R162): the model adds words of fixed width where the
statements add naturals and reduce them. -/

namespace Sys2Proof.Machine

open Sys2Proof.Claims

/-! ### Sums of fixed width -/

theorem zext16_eq_ofNat (b : Byte) : zext16 b = BitVec.ofNat 16 b.toNat := (BitVec.ofNat_toNat 16 b).symm

/-- A sum of bytes wraps inside page 0 (R155, R156, D45). -/
theorem byte_add_toNat (z x : Byte) : (z + x).toNat = (z.toNat + x.toNat) % 256 := BitVec.toNat_add z x

/-- A word indexed by a byte wraps modulo 65536 (R158, R159, R161). -/
theorem word_add_zext16 (w : Word) (x : Byte) : w + zext16 x = BitVec.ofNat 16 ((w.toNat + x.toNat) % 65536) := by
  apply BitVec.eq_of_toNat_eq
  rw [BitVec.toNat_add, zext16_toNat, BitVec.toNat_ofNat, Nat.mod_mod]

/-- Settles O26: an indexed operand is a sum of bytes before it is an address. -/
theorem zeroPageModes : Obligations.ZeroPageModes := by
  intro z s
  simp only [resolve, zext16_eq_ofNat, byte_add_toNat, and_self]

/-- Settles O27: an index is a byte added to the operand word. -/
theorem absoluteModes : Obligations.AbsoluteModes := by
  intro w s
  simp only [resolve, word_add_zext16, and_self]

/-! ### Pointers -/

/-- Both bytes of a pointer in page 0 are work RAM's, the second at the wrapped successor (R160, R161, D45). -/
theorem zeroPagePointer_eq_join (z : Byte) (s : State) :
    zeroPagePointer z s = (join (s.ram.read ((z.toNat + 1) % 256)) (s.ram.read z.toNat), s) := by
  rw [zeroPagePointer_eq, wordOf_eq_join, byte_add_toNat]
  rfl

/-- Settles O28: X enters before the pointer is read, Y is added to the word it holds. -/
theorem zeroPageIndirectModes : Obligations.ZeroPageIndirectModes := by
  intro z s
  constructor
  · simp only [resolve, zeroPagePointer_eq_join, byte_add_toNat]
  · simp only [resolve, zeroPagePointer_eq_join, word_add_zext16]

/-- Settles O29: the mask and the join name one address for the second read (`samePage_next`). -/
theorem indirectAbsoluteStaysInThePage : Obligations.IndirectAbsoluteStaysInThePage := by
  intro w s
  simp only [resolve, samePagePointer, samePage_next, wordOf_eq_join]

end Sys2Proof.Machine
end

section
/-! PROOFS. Loads, stores and register transfers (spec 41_load_store_transfer R171 to R182, 46_undocumented R291, R292):
what the shared operand forms come to in the terms of the statements, then the forms of each mnemonic. -/

namespace Sys2Proof.Machine

open Sys2Proof.Claims

/-! ### A byte loaded into a register -/

/-- Bit 7 of a byte is set from `0x80` on (R39). -/
theorem setZN_eq_zn (v : Byte) (f : Flags) : setZN v f = zn v f := by
  have hn : v.getLsbD 7 = decide (0x80 ≤ v.toNat) :=
    (BitVec.msb_eq_getLsbD_last v).symm.trans (BitVec.msb_eq_decide v)
  rw [setZN, zn, hn]
  rfl

theorem State.setZN_eq_setsZN (v : Byte) (s : State) : s.setZN v = setsZN v s :=
  congrArg s.setFlags (setZN_eq_zn v s.flags)

theorem useLoadA_eq_loadsA (v : Byte) (s : State) : useLoadA v s = loadsA v s := (s.setA v).setZN_eq_setsZN v

theorem useLoadX_eq_loadsX (v : Byte) (s : State) : useLoadX v s = loadsX v s := (s.setX v).setZN_eq_setsZN v

theorem useLoadY_eq_loadsY (v : Byte) (s : State) : useLoadY v s = loadsY v s := (s.setY v).setZN_eq_setsZN v

theorem useLoadAX_eq (v : Byte) (s : State) : useLoadAX v s = { loadsA v s with x := v } :=
  ((s.setA v).setX v).setZN_eq_setsZN v

/-! ### The shared forms in the terms of the statements -/

theorem readOperand_eq_operandOf (src : Source) (s : State) : readOperand src s = operandOf src s := by
  cases src <;> rfl

/-- No page-cross penalty is charged (R126, D41), so a reading form costs its base cost. -/
theorem withOperand_eq (src : Source) (cost : Nat) (use : Byte → State → State) (s : State) :
    withOperand src cost use s = costing cost (use (operandOf src s).1 (operandOf src s).2) := by
  rw [withOperand, readPenalty_eq_zero, readOperand_eq_operandOf]
  rfl

theorem storeAt_eq {m : Addressing} (cost : Nat) (value : State → Byte) {s : State} (h : (resolve m s).2 = s) :
    storeAt m cost value s = costing cost (busWrite (resolve m s).1 (value s) s) := by
  rw [storeAt, h]
  rfl

section
variable {s : State}

/-- Forms that are `withOperand` with one use read their operand once and have that use's effect. -/
theorem readsThen_of_withOperand {forms : List (Instr × Source × Nat)} {use effect : Byte → State → State}
    (huse : ∀ v t, use v t = effect v t)
    (h : ∀ f ∈ forms, exec f.1 s = .next (withOperand f.2.1 f.2.2 use s)) : ReadsThen forms s effect := by
  intro f hf
  rw [h f hf, withOperand_eq, huse]
  rfl

/-- Forms that are `storeAt` with one value, in modes whose resolution changes nothing, write that value once. -/
theorem stores_of_storeAt {forms : List (Instr × Addressing × Nat)} {value : State → Byte}
    (h : ∀ f ∈ forms, (∀ w, f.2.1 ≠ .indirectAbsolute w) ∧ exec f.1 s = .next (storeAt f.2.1 f.2.2 value s)) :
    Stores forms s (value s) := by
  intro f hf
  obtain ⟨hmode, hexec⟩ := h f hf
  rw [hexec, storeAt_eq _ value (resolve_state s hmode)]
  rfl

/-- An implied form that charges `n` after taking `s` to `t`, in the terms of the statements. -/
theorem exec_eq_costing {i : Instr} {n : Nat} {t u : State} (h : exec i s = .next (t.charge n)) (ht : t = u) :
    exec i s = .next (costing n u) :=
  ht ▸ h

end

/-! ### The forms of each mnemonic -/

section
variable (s : State) (v z : Byte) (w : Word)

theorem ldaForms_readsThen : ReadsThen (ldaForms v z w) s loadsA := by
  refine readsThen_of_withOperand useLoadA_eq_loadsA ?_
  simp only [ldaForms, List.forall_mem_cons]
  exact ⟨rfl, rfl, rfl, rfl, rfl, rfl, rfl, rfl, nofun⟩

theorem ldxForms_readsThen : ReadsThen (ldxForms v z w) s loadsX := by
  refine readsThen_of_withOperand useLoadX_eq_loadsX ?_
  simp only [ldxForms, List.forall_mem_cons]
  exact ⟨rfl, rfl, rfl, rfl, rfl, nofun⟩

theorem ldyForms_readsThen : ReadsThen (ldyForms v z w) s loadsY := by
  refine readsThen_of_withOperand useLoadY_eq_loadsY ?_
  simp only [ldyForms, List.forall_mem_cons]
  exact ⟨rfl, rfl, rfl, rfl, rfl, nofun⟩

theorem laxForms_readsThen : ReadsThen (laxForms z w) s (fun m t => { loadsA m t with x := m }) := by
  refine readsThen_of_withOperand useLoadAX_eq ?_
  simp only [laxForms, List.forall_mem_cons]
  exact ⟨rfl, rfl, rfl, rfl, rfl, rfl, nofun⟩

theorem staForms_stores : Stores (staForms z w) s s.a := by
  refine stores_of_storeAt (value := State.a) ?_
  simp only [staForms, List.forall_mem_cons]
  exact ⟨⟨nofun, rfl⟩, ⟨nofun, rfl⟩, ⟨nofun, rfl⟩, ⟨nofun, rfl⟩, ⟨nofun, rfl⟩, ⟨nofun, rfl⟩, ⟨nofun, rfl⟩, nofun⟩

theorem stxForms_stores : Stores (stxForms z w) s s.x := by
  refine stores_of_storeAt (value := State.x) ?_
  simp only [stxForms, List.forall_mem_cons]
  exact ⟨⟨nofun, rfl⟩, ⟨nofun, rfl⟩, ⟨nofun, rfl⟩, nofun⟩

theorem styForms_stores : Stores (styForms z w) s s.y := by
  refine stores_of_storeAt (value := State.y) ?_
  simp only [styForms, List.forall_mem_cons]
  exact ⟨⟨nofun, rfl⟩, ⟨nofun, rfl⟩, ⟨nofun, rfl⟩, nofun⟩

theorem saxForms_stores : Stores (saxForms z w) s (s.a &&& s.x) := by
  refine stores_of_storeAt (value := fun t => t.a &&& t.x) ?_
  simp only [saxForms, List.forall_mem_cons]
  exact ⟨⟨nofun, rfl⟩, ⟨nofun, rfl⟩, ⟨nofun, rfl⟩, ⟨nofun, rfl⟩, nofun⟩

end

/-- Settles O32: every form is `withOperand` with its mnemonic's load. -/
theorem loadsWriteTheRegister : Obligations.LoadsWriteTheRegister := fun s v z w =>
  ⟨ldaForms_readsThen s v z w, ldxForms_readsThen s v z w, ldyForms_readsThen s v z w, laxForms_readsThen s z w⟩

/-- Settles O33: every form is `storeAt` with its mnemonic's register, and no store has JMP's indirect mode. -/
theorem storesWriteOneByte : Obligations.StoresWriteOneByte := fun s z w =>
  ⟨staForms_stores s z w, stxForms_stores s z w, styForms_stores s z w, saxForms_stores s z w⟩

/-- Settles O34: a transfer is a load of the other register's byte; TXS is a move of `SP` alone. -/
theorem transfersMoveTheByte : Obligations.TransfersMoveTheByte := fun s =>
  ⟨exec_eq_costing rfl (useLoadX_eq_loadsX s.a s), exec_eq_costing rfl (useLoadA_eq_loadsA s.x s),
    exec_eq_costing rfl (useLoadY_eq_loadsY s.a s), exec_eq_costing rfl (useLoadA_eq_loadsA s.y s),
    exec_eq_costing rfl (useLoadX_eq_loadsX s.sp s), rfl⟩

end Sys2Proof.Machine
end

section
/-! PROOFS. The stack (spec 42_stack R190 to R195): push and pop, the stack instructions, and the memory frame of the forms
that push. -/

namespace Sys2Proof.Machine

open Sys2Proof.Claims

/-! ### Push and pop -/

/-- The pop reads the byte the push wrote and undoes its decrement, also where `SP` wraps (R190). -/
theorem pop_push (v : Byte) (s : State) :
    pop (push v s) = (v, { s with ram := s.ram.write (0x100 + s.sp.toNat) v }) := by
  rw [pop_eq, push_eq]
  simp only [BitVec.sub_add_cancel, Memory.read_write_same]

/-- Settles O30: both are accesses of work RAM in page 1, where a read returns the byte last written. -/
theorem pushAndPop : Obligations.PushAndPop := fun v s => ⟨push_eq v s, pop_eq s, pop_push v s⟩

/-! ### The stack instructions -/

theorem pullA_eq_loadsA (s : State) :
    pullA s = loadsA (s.ram.read (stackIndex (s.sp + 1))) { s with sp := s.sp + 1 } :=
  (pullA_eq s).trans (useLoadA_eq_loadsA _ _)

/-- PHP's push, with the status byte by its weights (R34). -/
theorem pushStatus_eq_statusByte (s : State) :
    pushStatus s = { s with
      flags := { s.flags with b := true }
      ram := s.ram.write (stackIndex s.sp) (statusByte { s.flags with b := true })
      sp := s.sp - 1 } := by
  rw [pushStatus_eq, getP_eq_statusByte]
  rfl

/-- Settles O35: each instruction is its push or pull, then its cost. -/
theorem stackInstructions : Obligations.StackInstructions := fun s =>
  ⟨exec_eq_costing rfl (push_eq s.a s), exec_eq_costing rfl (pullA_eq_loadsA s),
    exec_eq_costing rfl (pushStatus_eq_statusByte s), exec_eq_costing rfl (pullStatus_eq s)⟩

/-! ### The memory frame of pushes -/

/-- Page 1 and `SP` share no bit, so the model's join of them is the sum the statement writes. -/
theorem stackAddr_eq_add (sp : Byte) : stackAddr sp = 0x0100#16 + sp.setWidth 16 := by
  apply BitVec.eq_of_toNat_eq
  rw [stackAddr_toNat, BitVec.toNat_add, BitVec.toNat_setWidth, BitVec.toNat_ofNat]
  omega

/-- `t` is `s` after `n` pushes and updates of the registers: in memory only the `n` stack bytes from `SP` down may
differ. -/
structure PushesOnly (n : Nat) (s t : State) : Prop where
  bus : ∀ b : Word, (∀ k < n, regionOf b ≠ regionOf (stackAddr (s.sp - BitVec.ofNat 8 k))) → busByte b t = busByte b s
  latch : t.dmaLatch = s.dmaLatch
  devices : t.deviceSide = s.deviceSide
  sp : t.sp = s.sp - BitVec.ofNat 8 n

theorem sub_ofNat_sub_ofNat (sp : Byte) (m n : Nat) :
    sp - BitVec.ofNat 8 m - BitVec.ofNat 8 n = sp - BitVec.ofNat 8 (m + n) := by
  simp only [BitVec.ofNat_add, BitVec.sub_eq_add_neg, BitVec.neg_add, BitVec.add_assoc]

theorem PushesOnly.trans {m n : Nat} {s t u : State} (h : PushesOnly m s t) (h' : PushesOnly n t u) :
    PushesOnly (m + n) s u where
  bus b hb := by
    have ht : busByte b t = busByte b s := h.bus b fun k hk => hb k (by omega)
    refine (h'.bus b fun k hk => ?_).trans ht
    rw [h.sp, sub_ofNat_sub_ofNat]
    exact hb (m + k) (by omega)
  latch := h'.latch.trans h.latch
  devices := h'.devices.trans h.devices
  sp := by rw [h'.sp, h.sp, sub_ofNat_sub_ofNat]

/-- Updates of the registers but `SP` change nothing more. -/
theorem PushesOnly.of_memory {n : Nat} {s t u : State} (h : PushesOnly n s t) (hmem : u.memory = t.memory)
    (hsp : u.sp = t.sp) : PushesOnly n s u := by
  obtain ⟨hbus, hdev⟩ := memory_eq_iff.mp hmem
  obtain ⟨hram, hcart, hlatch⟩ := busSide_eq_iff.mp hbus
  exact ⟨fun b hb => (busByte_congr hram hcart b).trans (h.bus b hb), hlatch.trans h.latch, hdev.trans h.devices,
    hsp.trans h.sp⟩

/-- A push is a bus write at the stack byte `SP` selects, which no device but work RAM sees (R190). -/
theorem push_pushesOnly (v : Byte) (s : State) : PushesOnly 1 s (push v s) where
  bus b hb := (busWrite_storesOnlyAt (stackAddr s.sp) v s).bus b (BitVec.sub_zero s.sp ▸ hb 0 Nat.one_pos)
  latch := by rw [push_eq]
  devices := by rw [push_eq]; rfl
  sp := rfl

theorem pushWord_pushesOnly (w : Word) (s : State) : PushesOnly 2 s (pushWord w s) :=
  (push_pushesOnly (hiByte w) s).trans (push_pushesOnly (loByte w) _)

theorem pushFrame_pushesOnly (ret : Word) (p : Byte) (s : State) : PushesOnly 3 s (pushFrame ret p s) :=
  (pushWord_pushesOnly ret s).trans (push_pushesOnly p _)

/-- PHP's break flag is not in memory, so its push is a push alone (R193). -/
theorem pushStatus_pushesOnly (s : State) : PushesOnly 1 s (pushStatus s) := by
  have hpush := push_pushesOnly (getP { s.flags with b := true }) s
  rw [push_eq] at hpush
  rw [pushStatus_eq]
  exact hpush.of_memory rfl rfl

/-- On both of BRK's paths memory and `SP` are as the three pushes leave them (R264). -/
theorem breakSequence_pushesOnly (s : State) : PushesOnly 3 s (breakSequence s) := by
  have hframe := pushFrame_pushesOnly (s.pc + 1) (getP { s.flags with b := true }) s
  rw [pushFrame_eq] at hframe
  rw [breakSequence_eq]
  exact hframe.of_memory rfl rfl

/-! ### The instructions that push -/

theorem pushing_of_pushes_ne_zero {m : Mnemonic} (h : pushes m ≠ 0) : m = .pha ∨ m = .php ∨ m = .jsr ∨ m = .brk := by
  cases m <;> simp [pushes] at h ⊢

/-- An instruction that pushes changes memory by its pushes alone (R195). -/
theorem pushing_pushesOnly {i : Instr} {s t : State} (h : exec i s = .next t) (hpush : pushes i.entry.mnemonic ≠ 0) :
    PushesOnly (pushes i.entry.mnemonic) s t := by
  have hl := leads_of_exec h
  obtain hm | hm | hm | hm := pushing_of_pushes_ne_zero hpush <;> rw [hm] at hl ⊢
  · cases hl with | implied cost =>
    exact (push_pushesOnly s.a s).of_memory rfl rfl
  · cases hl with | implied cost =>
    exact (pushStatus_pushesOnly s).of_memory rfl rfl
  · cases hl with | call w cost =>
    exact (pushWord_pushesOnly (s.pc - 1) s).of_memory rfl rfl
  · cases hl with | implied cost =>
    exact (breakSequence_pushesOnly s).of_memory rfl rfl

/-- Settles O60: the four pushing instructions are pushes and register updates. -/
theorem pushingFormsKeepOtherMemory : Obligations.PushingFormsKeepOtherMemory := by
  intro i s t h hpush
  obtain ⟨hbus, hlatch, hdev, -⟩ := pushing_pushesOnly h hpush
  exact ⟨fun b hb => hbus b (by simpa only [stackAddr_eq_add] using hb), hlatch, sameDevices_of_deviceSide hdev⟩

end Sys2Proof.Machine
end

section
/-! PROOFS. Addition, subtraction and the compares (spec 43_arithmetic_compare R200 to R206): the signed reading of a byte,
the sum with carry, the subtraction as a sum with the complement, then the forms of each mnemonic. -/

namespace Sys2Proof.Machine

open Sys2Proof.Claims

/-! ### Signs -/

theorem bit_eq_toNat (p : Bool) : bit p = p.toNat := by cases p <;> rfl

/-- Bit 7 of the exclusive or tells whether the signs differ (R38). -/
theorem xor_and_signBit_eq_zero_iff (a b : Byte) : (a ^^^ b) &&& 0x80#8 = 0x00#8 ↔ a.msb = b.msb := by
  have hmask : ∀ x : Byte, x &&& 0x80#8 = 0x00#8 ↔ x.msb = false := by decide
  rw [hmask, BitVec.msb_xor, bne_eq_false_iff_eq]

/-- Two bytes have one sign when they are on the same side of `0x80`. -/
theorem msb_eq_msb_iff (a b : Byte) : a.msb = b.msb ↔ (0x80 ≤ a.toNat ↔ 0x80 ≤ b.toNat) := by
  rw [BitVec.msb_eq_decide, BitVec.msb_eq_decide, decide_eq_decide]

/-- The signed reading of a byte (R39). -/
theorem toInt_eq_ite (a : Byte) : a.toInt = if 0x80 ≤ a.toNat then (a.toNat : Int) - 256 else a.toNat := by
  rw [BitVec.toInt_eq_msb_cond, BitVec.msb_eq_decide]
  simp

theorem overflow_eq_decide (a operand result : Byte) : overflow a operand result =
    decide ((a ^^^ operand) &&& 0x80#8 = 0x00#8 ∧ (a ^^^ result) &&& 0x80#8 ≠ 0x00#8) := by
  rw [Bool.decide_and, decide_not]
  rfl

/-! ### The sum with carry -/

/-- `AddCore(m)` in the terms of the statements (R200). -/
theorem useAdd_eq_added (m : Byte) (t : State) : useAdd m t = added m t := by
  simp only [useAdd, addCore, added, setZN_eq_zn, overflow_eq_decide, bit_eq_toNat]
  rfl

/-- The result's sign leaves that of two operands of one sign exactly when the signed sum with carry leaves its range
(R38). -/
theorem overflow_iff_signedSum_out_of_range (a m : Byte) (c : Bool) :
    overflow a m (BitVec.ofNat 8 (a.toNat + m.toNat + c.toNat)) = true ↔
      a.toInt + m.toInt + c.toNat < -128 ∨ 127 < a.toInt + m.toInt + c.toNat := by
  have ha := a.isLt
  have hm := m.isLt
  have hc := c.toNat_le
  rw [overflow_eq_decide, decide_eq_true_iff, ne_eq, xor_and_signBit_eq_zero_iff, xor_and_signBit_eq_zero_iff,
    msb_eq_msb_iff, msb_eq_msb_iff, BitVec.toNat_ofNat, toInt_eq_ite, toInt_eq_ite]
  split <;> split <;> omega

/-- Settles O37: the flags of `addCore` are those of the unbounded sum, and none depends on `D`. -/
theorem addCoreIsUnsignedAndSignedAddition : Obligations.AddCoreIsUnsignedAndSignedAddition := by
  intro a m f
  simp only [bit_eq_toNat]
  refine ⟨BitVec.toNat_ofNat _ _, rfl, ?_, rfl, ?_, rfl, rfl, rfl, rfl⟩
  · exact Bool.eq_iff_iff.mpr ((overflow_iff_signedSum_out_of_range a m f.c).trans decide_eq_true_iff.symm)
  · exact (BitVec.msb_eq_getLsbD_last _).symm.trans BitVec.msb_eq_toInt

/-! ### The subtraction -/

/-- The complement of a byte has the other sign. -/
theorem xor_complement_and_signBit_eq_zero_iff (a m : Byte) :
    (a ^^^ (m ^^^ 0xFF#8)) &&& 0x80#8 = 0x00#8 ↔ (a ^^^ m) &&& 0x80#8 ≠ 0x00#8 := by
  rw [ne_eq, xor_and_signBit_eq_zero_iff, xor_and_signBit_eq_zero_iff, BitVec.msb_xor]
  cases a.msb <;> cases m.msb <;> decide

theorem complement_toNat (m : Byte) : (m ^^^ 0xFF#8).toNat = 255 - m.toNat :=
  (congrArg BitVec.toNat BitVec.xor_allOnes).trans BitVec.toNat_not

/-- Adding the complement and the carry subtracts the operand and the borrow (R201, D31). -/
theorem add_complement_eq_sub_borrow (a m : Byte) (c : Bool) :
    BitVec.ofNat 8 (a.toNat + (m ^^^ 0xFF#8).toNat + bit c) = a - m - BitVec.ofNat 8 (1 - bit c) := by
  have hc := c.toNat_le
  apply BitVec.eq_of_toNat_eq
  simp only [complement_toNat, bit_eq_toNat, BitVec.toNat_sub, BitVec.toNat_ofNat]
  omega

/-- The sum with the complement carries out exactly when no borrow occurs (R201). -/
theorem carry_complement_iff_no_borrow (a m : Byte) (c : Bool) :
    0xFF < a.toNat + (m ^^^ 0xFF#8).toNat + bit c ↔ m.toNat + (1 - bit c) ≤ a.toNat := by
  have hm := m.isLt
  have hc := c.toNat_le
  rw [complement_toNat, bit_eq_toNat]
  omega

theorem useSubtract_eq_subtracted (m : Byte) (t : State) : useSubtract m t = subtracted m t := by
  rw [useSubtract, useAdd_eq_added]
  simp only [added, subtracted, add_complement_eq_sub_borrow, carry_complement_iff_no_borrow,
    xor_complement_and_signBit_eq_zero_iff]

/-! ### The comparison -/

/-- The difference is zero exactly when the operands are equal (R202). -/
theorem setFlags_compareFlags_eq_compared (r m : Byte) (t : State) :
    t.setFlags (compareFlags r m t.flags) = compared r m t := by
  have hzero : r - m = 0x00#8 ↔ r = m := by rw [BitVec.sub_eq_iff_eq_add, BitVec.zero_add]
  simp only [compareFlags, setZN_eq_zn, zn, hzero]
  rfl

theorem useCompareA_eq_compared (m : Byte) (t : State) : useCompareA m t = compared t.a m t :=
  setFlags_compareFlags_eq_compared t.a m t

theorem useCompareX_eq_compared (m : Byte) (t : State) : useCompareX m t = compared t.x m t :=
  setFlags_compareFlags_eq_compared t.x m t

theorem useCompareY_eq_compared (m : Byte) (t : State) : useCompareY m t = compared t.y m t :=
  setFlags_compareFlags_eq_compared t.y m t

/-! ### The forms of each mnemonic -/

section
variable (s : State) (v z : Byte) (w : Word)

theorem cmpForms_readsThen : ReadsThen (cmpForms v z w) s (fun m t => compared t.a m t) := by
  refine readsThen_of_withOperand useCompareA_eq_compared ?_
  simp only [cmpForms, List.forall_mem_cons]
  exact ⟨rfl, rfl, rfl, rfl, rfl, rfl, rfl, rfl, nofun⟩

theorem cpxForms_readsThen : ReadsThen (cpxForms v z w) s (fun m t => compared t.x m t) := by
  refine readsThen_of_withOperand useCompareX_eq_compared ?_
  simp only [cpxForms, List.forall_mem_cons]
  exact ⟨rfl, rfl, rfl, nofun⟩

theorem cpyForms_readsThen : ReadsThen (cpyForms v z w) s (fun m t => compared t.y m t) := by
  refine readsThen_of_withOperand useCompareY_eq_compared ?_
  simp only [cpyForms, List.forall_mem_cons]
  exact ⟨rfl, rfl, rfl, nofun⟩

end

/-- Settles O36: every form is `withOperand` with the sum. -/
theorem adcAddsWithCarry : Obligations.AdcAddsWithCarry := by
  intro s v z w
  refine readsThen_of_withOperand useAdd_eq_added ?_
  simp only [adcForms, List.forall_mem_cons]
  exact ⟨rfl, rfl, rfl, rfl, rfl, rfl, rfl, rfl, nofun⟩

/-- Settles O38: every form is `withOperand` with the sum of the complement. -/
theorem sbcSubtractsWithBorrow : Obligations.SbcSubtractsWithBorrow := by
  intro s v z w
  refine readsThen_of_withOperand useSubtract_eq_subtracted ?_
  simp only [sbcForms, List.forall_mem_cons]
  exact ⟨rfl, rfl, rfl, rfl, rfl, rfl, rfl, rfl, nofun⟩

/-- Settles O39: every form is `withOperand` with its register's comparison. -/
theorem comparesSetTheFlags : Obligations.ComparesSetTheFlags := fun s v z w =>
  ⟨cmpForms_readsThen s v z w, cpxForms_readsThen s v z w, cpyForms_readsThen s v z w⟩

end Sys2Proof.Machine
end

section
/-! PROOFS. Increments, shifts, rotates, logic and BIT (spec 44_incdec_shift_logic R220 to R234), and the undocumented
read-modify-write instructions (46_undocumented R293 to R298): the byte functions in numbers, the read-modify-write form
in the terms of the statements, then the forms of each mnemonic. -/

namespace Sys2Proof.Machine

open Sys2Proof.Claims

/-! ### The byte functions in numbers -/

theorem byte_add_one (x : Byte) : x + 1 = BitVec.ofNat 8 (x.toNat + 1) :=
  BitVec.eq_of_toNat_eq (by simp)

/-- Taking one away is adding 255 modulo 256. -/
theorem byte_sub_one (x : Byte) : x - 1 = BitVec.ofNat 8 (x.toNat + 255) := by
  apply BitVec.eq_of_toNat_eq
  rw [BitVec.toNat_sub, BitVec.toNat_ofNat, Nat.add_comm]
  rfl

theorem getLsbD_seven_eq_decide (x : Byte) : x.getLsbD 7 = decide (0x80 ≤ x.toNat) :=
  (BitVec.msb_eq_getLsbD_last x).symm.trans (BitVec.msb_eq_decide x)

theorem getLsbD_zero_eq_decide (x : Byte) : x.getLsbD 0 = decide (x.toNat % 2 = 1) :=
  Nat.testBit_zero x.toNat

theorem byte_shiftLeft_one (x : Byte) : x <<< 1 = BitVec.ofNat 8 (2 * x.toNat) := by
  apply BitVec.eq_of_toNat_eq
  rw [BitVec.toNat_shiftLeft, BitVec.toNat_ofNat, Nat.shiftLeft_eq, Nat.mul_comm]

theorem byte_shiftRight_one (x : Byte) : x >>> 1 = BitVec.ofNat 8 (x.toNat / 2) := by
  apply BitVec.eq_of_toNat_eq
  rw [BitVec.toNat_ushiftRight, BitVec.toNat_ofNat, Nat.shiftRight_eq_div_pow]
  omega

theorem flagBit_eq_ofNat (p : Bool) : flagBit p = BitVec.ofNat 8 (bit p) := by cases p <;> rfl

theorem flagBit_shiftLeft_seven (p : Bool) : flagBit p <<< 7 = BitVec.ofNat 8 (128 * bit p) := by cases p <;> rfl

/-- The shift left frees bit 0, so the carry that enters there is added (R229). -/
theorem shiftLeft_or_flagBit (x : Byte) (p : Bool) : x <<< 1 ||| flagBit p = BitVec.ofNat 8 (2 * x.toNat + bit p) := by
  have hdisjoint : x <<< 1 &&& flagBit p = 0 := by
    apply BitVec.eq_of_getElem_eq
    intro k hk
    by_cases h : k = 0 <;> simp [h]
  rw [← BitVec.add_eq_or_of_and_eq_zero _ _ hdisjoint, byte_shiftLeft_one, flagBit_eq_ofNat, BitVec.ofNat_add]

/-- The shift right frees bit 7, so the carry that enters there is added with its weight (R230). -/
theorem shiftRight_or_flagBit (x : Byte) (p : Bool) :
    x >>> 1 ||| flagBit p <<< 7 = BitVec.ofNat 8 (x.toNat / 2 + 128 * bit p) := by
  have hdisjoint : x >>> 1 &&& flagBit p <<< 7 = 0 := by
    apply BitVec.eq_of_getElem_eq
    intro k hk
    by_cases h : k = 7
    · simp [h]
    · simp [show k < 7 by omega]
  rw [← BitVec.add_eq_or_of_and_eq_zero _ _ hdisjoint, byte_shiftRight_one, flagBit_shiftLeft_seven, BitVec.ofNat_add]

theorem incByte_eq_incremented (old : Byte) (f : Flags) : incByte old f = incremented old f := by
  rw [incByte, incremented, byte_add_one]

theorem decByte_eq_decremented (old : Byte) (f : Flags) : decByte old f = decremented old f := by
  rw [decByte, decremented, byte_sub_one]

theorem aslByte_eq_shiftedLeft (old : Byte) (f : Flags) : aslByte old f = shiftedLeft old f := by
  rw [aslByte, shiftedLeft, byte_shiftLeft_one, getLsbD_seven_eq_decide]

theorem lsrByte_eq_shiftedRight (old : Byte) (f : Flags) : lsrByte old f = shiftedRight old f := by
  rw [lsrByte, shiftedRight, byte_shiftRight_one, getLsbD_zero_eq_decide]

theorem rolByte_eq_rotatedLeft (old : Byte) (f : Flags) : rolByte old f = rotatedLeft old f := by
  rw [rolByte, rotatedLeft, shiftLeft_or_flagBit, getLsbD_seven_eq_decide]

theorem rorByte_eq_rotatedRight (old : Byte) (f : Flags) : rorByte old f = rotatedRight old f := by
  rw [rorByte, rotatedRight, shiftRight_or_flagBit, getLsbD_zero_eq_decide]

/-! ### The uses of the operand byte in the terms of the statements -/

theorem useSetZN_eq_setsZN (v : Byte) (t : State) : useSetZN v t = setsZN v t := t.setZN_eq_setsZN v

theorem useAnd_eq_loadsA (v : Byte) (t : State) : useAnd v t = loadsA (t.a &&& v) t := useLoadA_eq_loadsA _ t

theorem useOr_eq_loadsA (v : Byte) (t : State) : useOr v t = loadsA (t.a ||| v) t := useLoadA_eq_loadsA _ t

theorem useXor_eq_loadsA (v : Byte) (t : State) : useXor v t = loadsA (t.a ^^^ v) t := useLoadA_eq_loadsA _ t

/-- Bit 6 of a byte is set when its remainder without bit 7 reaches `0x40`. -/
theorem getLsbD_six_eq_decide (x : Byte) : x.getLsbD 6 = decide (0x40 ≤ x.toNat % 0x80) := by
  rw [BitVec.getLsbD, Nat.testBit_eq_decide_div_mod_eq, decide_eq_decide]
  omega

/-- BIT's flags in the terms of the statements (R234). -/
theorem useBitTest_eq (m : Byte) (t : State) : useBitTest m t = { t with flags := { t.flags with
    z := decide (t.a &&& m = 0x00#8)
    n := decide (0x80 ≤ m.toNat)
    v := decide (0x40 ≤ m.toNat % 0x80) } } := by
  rw [useBitTest, bitTest, getLsbD_seven_eq_decide, getLsbD_six_eq_decide]
  rfl

/-! ### The read-modify-write forms in the terms of the statements -/

section
variable {s : State} {f f' : Byte → Flags → Byte × Flags}

/-- Forms that are `modifyAt` with one byte function and one use, in modes whose resolution changes nothing, modify the
byte at their effective address and have that use's effect. -/
theorem modifiesThen_of_modifyAt {forms : List (Instr × Addressing × Nat)} {use effect : Byte → State → State}
    (hf : ∀ v g, f v g = f' v g) (huse : ∀ v t, use v t = effect v t)
    (h : ∀ g ∈ forms, (∀ w, g.2.1 ≠ .indirectAbsolute w) ∧ exec g.1 s = .next (modifyAt f g.2.1 g.2.2 use s)) :
    ModifiesThen forms s f' effect := by
  intro g hg
  obtain ⟨hmode, hexec⟩ := h g hg
  rw [hexec, modifyAt, readModifyWrite, resolve_state s hmode]
  simp only [hf, huse]
  rfl

/-- In Accumulator mode the byte function's result is loaded into `A`, on its flags (R151, R220). -/
theorem exec_of_modifyA {i : Instr} {n : Nat} (hf : ∀ v g, f v g = f' v g) (h : exec i s = .next (modifyA f n s)) :
    let r := f' s.a s.flags
    exec i s = .next (costing n (loadsA r.1 { s with flags := r.2 })) := by
  rw [modifyA, hf] at h
  exact exec_eq_costing h (State.setZN_eq_setsZN _ _)

end

/-! ### The forms of each mnemonic -/

section
variable (s : State) (v z : Byte) (w : Word)

theorem incForms_modifiesThen : ModifiesThen (incForms z w) s incremented setsZN := by
  refine modifiesThen_of_modifyAt incByte_eq_incremented useSetZN_eq_setsZN ?_
  simp only [incForms, List.forall_mem_cons]
  exact ⟨⟨nofun, rfl⟩, ⟨nofun, rfl⟩, ⟨nofun, rfl⟩, ⟨nofun, rfl⟩, List.forall_mem_nil _⟩

theorem decForms_modifiesThen : ModifiesThen (decForms z w) s decremented setsZN := by
  refine modifiesThen_of_modifyAt decByte_eq_decremented useSetZN_eq_setsZN ?_
  simp only [decForms, List.forall_mem_cons]
  exact ⟨⟨nofun, rfl⟩, ⟨nofun, rfl⟩, ⟨nofun, rfl⟩, ⟨nofun, rfl⟩, List.forall_mem_nil _⟩

theorem aslForms_modifiesThen : ModifiesThen (aslForms z w) s shiftedLeft setsZN := by
  refine modifiesThen_of_modifyAt aslByte_eq_shiftedLeft useSetZN_eq_setsZN ?_
  simp only [aslForms, List.forall_mem_cons]
  exact ⟨⟨nofun, rfl⟩, ⟨nofun, rfl⟩, ⟨nofun, rfl⟩, ⟨nofun, rfl⟩, List.forall_mem_nil _⟩

theorem lsrForms_modifiesThen : ModifiesThen (lsrForms z w) s shiftedRight setsZN := by
  refine modifiesThen_of_modifyAt lsrByte_eq_shiftedRight useSetZN_eq_setsZN ?_
  simp only [lsrForms, List.forall_mem_cons]
  exact ⟨⟨nofun, rfl⟩, ⟨nofun, rfl⟩, ⟨nofun, rfl⟩, ⟨nofun, rfl⟩, List.forall_mem_nil _⟩

theorem rolForms_modifiesThen : ModifiesThen (rolForms z w) s rotatedLeft setsZN := by
  refine modifiesThen_of_modifyAt rolByte_eq_rotatedLeft useSetZN_eq_setsZN ?_
  simp only [rolForms, List.forall_mem_cons]
  exact ⟨⟨nofun, rfl⟩, ⟨nofun, rfl⟩, ⟨nofun, rfl⟩, ⟨nofun, rfl⟩, List.forall_mem_nil _⟩

theorem rorForms_modifiesThen : ModifiesThen (rorForms z w) s rotatedRight setsZN := by
  refine modifiesThen_of_modifyAt rorByte_eq_rotatedRight useSetZN_eq_setsZN ?_
  simp only [rorForms, List.forall_mem_cons]
  exact ⟨⟨nofun, rfl⟩, ⟨nofun, rfl⟩, ⟨nofun, rfl⟩, ⟨nofun, rfl⟩, List.forall_mem_nil _⟩

theorem andForms_readsThen : ReadsThen (andForms v z w) s (fun m t => loadsA (t.a &&& m) t) := by
  refine readsThen_of_withOperand useAnd_eq_loadsA ?_
  simp only [andForms, List.forall_mem_cons]
  exact ⟨rfl, rfl, rfl, rfl, rfl, rfl, rfl, rfl, List.forall_mem_nil _⟩

theorem oraForms_readsThen : ReadsThen (oraForms v z w) s (fun m t => loadsA (t.a ||| m) t) := by
  refine readsThen_of_withOperand useOr_eq_loadsA ?_
  simp only [oraForms, List.forall_mem_cons]
  exact ⟨rfl, rfl, rfl, rfl, rfl, rfl, rfl, rfl, List.forall_mem_nil _⟩

theorem eorForms_readsThen : ReadsThen (eorForms v z w) s (fun m t => loadsA (t.a ^^^ m) t) := by
  refine readsThen_of_withOperand useXor_eq_loadsA ?_
  simp only [eorForms, List.forall_mem_cons]
  exact ⟨rfl, rfl, rfl, rfl, rfl, rfl, rfl, rfl, List.forall_mem_nil _⟩

theorem dcpForms_modifiesThen : ModifiesThen (dcpForms z w) s decremented (fun m t => compared t.a m t) := by
  refine modifiesThen_of_modifyAt decByte_eq_decremented useCompareA_eq_compared ?_
  simp only [dcpForms, List.forall_mem_cons]
  exact ⟨⟨nofun, rfl⟩, ⟨nofun, rfl⟩, ⟨nofun, rfl⟩, ⟨nofun, rfl⟩, ⟨nofun, rfl⟩, ⟨nofun, rfl⟩, ⟨nofun, rfl⟩,
    List.forall_mem_nil _⟩

theorem isbForms_modifiesThen : ModifiesThen (isbForms z w) s incremented subtracted := by
  refine modifiesThen_of_modifyAt incByte_eq_incremented useSubtract_eq_subtracted ?_
  simp only [isbForms, List.forall_mem_cons]
  exact ⟨⟨nofun, rfl⟩, ⟨nofun, rfl⟩, ⟨nofun, rfl⟩, ⟨nofun, rfl⟩, ⟨nofun, rfl⟩, ⟨nofun, rfl⟩, ⟨nofun, rfl⟩,
    List.forall_mem_nil _⟩

theorem sloForms_modifiesThen : ModifiesThen (sloForms z w) s shiftedLeft (fun m t => loadsA (t.a ||| m) t) := by
  refine modifiesThen_of_modifyAt aslByte_eq_shiftedLeft useOr_eq_loadsA ?_
  simp only [sloForms, List.forall_mem_cons]
  exact ⟨⟨nofun, rfl⟩, ⟨nofun, rfl⟩, ⟨nofun, rfl⟩, ⟨nofun, rfl⟩, ⟨nofun, rfl⟩, ⟨nofun, rfl⟩, ⟨nofun, rfl⟩,
    List.forall_mem_nil _⟩

theorem rlaForms_modifiesThen : ModifiesThen (rlaForms z w) s rotatedLeft (fun m t => loadsA (t.a &&& m) t) := by
  refine modifiesThen_of_modifyAt rolByte_eq_rotatedLeft useAnd_eq_loadsA ?_
  simp only [rlaForms, List.forall_mem_cons]
  exact ⟨⟨nofun, rfl⟩, ⟨nofun, rfl⟩, ⟨nofun, rfl⟩, ⟨nofun, rfl⟩, ⟨nofun, rfl⟩, ⟨nofun, rfl⟩, ⟨nofun, rfl⟩,
    List.forall_mem_nil _⟩

theorem sreForms_modifiesThen : ModifiesThen (sreForms z w) s shiftedRight (fun m t => loadsA (t.a ^^^ m) t) := by
  refine modifiesThen_of_modifyAt lsrByte_eq_shiftedRight useXor_eq_loadsA ?_
  simp only [sreForms, List.forall_mem_cons]
  exact ⟨⟨nofun, rfl⟩, ⟨nofun, rfl⟩, ⟨nofun, rfl⟩, ⟨nofun, rfl⟩, ⟨nofun, rfl⟩, ⟨nofun, rfl⟩, ⟨nofun, rfl⟩,
    List.forall_mem_nil _⟩

theorem rraForms_modifiesThen : ModifiesThen (rraForms z w) s rotatedRight added := by
  refine modifiesThen_of_modifyAt rorByte_eq_rotatedRight useAdd_eq_added ?_
  simp only [rraForms, List.forall_mem_cons]
  exact ⟨⟨nofun, rfl⟩, ⟨nofun, rfl⟩, ⟨nofun, rfl⟩, ⟨nofun, rfl⟩, ⟨nofun, rfl⟩, ⟨nofun, rfl⟩, ⟨nofun, rfl⟩,
    List.forall_mem_nil _⟩

end

/-! ### The statements -/

/-- Settles O40: every form is `modifyAt` with its mnemonic's byte function and SetZN. -/
theorem memoryIncrementsAndDecrements : Obligations.MemoryIncrementsAndDecrements := fun s z w =>
  ⟨incForms_modifiesThen s z w, decForms_modifiesThen s z w⟩

/-- Settles O41: each is a load of the register's own byte, one up or down. -/
theorem registerIncrementsAndDecrements : Obligations.RegisterIncrementsAndDecrements := by
  intro s
  simp only [← byte_add_one, ← byte_sub_one]
  exact ⟨exec_eq_costing rfl (useLoadX_eq_loadsX _ s), exec_eq_costing rfl (useLoadY_eq_loadsY _ s),
    exec_eq_costing rfl (useLoadX_eq_loadsX _ s), exec_eq_costing rfl (useLoadY_eq_loadsY _ s)⟩

/-- Settles O42: memory forms are `modifyAt`, Accumulator forms `modifyA`, with one byte function. -/
theorem shiftsMoveOneBit : Obligations.ShiftsMoveOneBit := fun s z w =>
  ⟨aslForms_modifiesThen s z w, lsrForms_modifiesThen s z w,
    exec_of_modifyA aslByte_eq_shiftedLeft rfl, exec_of_modifyA lsrByte_eq_shiftedRight rfl⟩

/-- Settles O43: as the shifts, with the old carry added in the bit the shift frees. -/
theorem rotatesGoThroughTheCarry : Obligations.RotatesGoThroughTheCarry := fun s z w =>
  ⟨rolForms_modifiesThen s z w, rorForms_modifiesThen s z w,
    exec_of_modifyA rolByte_eq_rotatedLeft rfl, exec_of_modifyA rorByte_eq_rotatedRight rfl⟩

/-- Settles O44: every form is `withOperand` with a load of the combined byte. -/
theorem logicCombinesIntoA : Obligations.LogicCombinesIntoA := fun s v z w =>
  ⟨andForms_readsThen s v z w, oraForms_readsThen s v z w, eorForms_readsThen s v z w⟩

/-- Settles O45: both forms are `withOperand` with BIT's flags. -/
theorem bitTestsMemory : Obligations.BitTestsMemory := by
  intro s z w
  refine readsThen_of_withOperand useBitTest_eq ?_
  simp only [bitForms, List.forall_mem_cons]
  exact ⟨rfl, rfl, List.forall_mem_nil _⟩

/-- Settles O53: every form is `modifyAt` with the compare or the subtraction as its use. -/
theorem decrementCompareAndIncrementSubtract : Obligations.DecrementCompareAndIncrementSubtract := fun s z w =>
  ⟨dcpForms_modifiesThen s z w, isbForms_modifiesThen s z w⟩

/-- Settles O54: every form is `modifyAt`, and its use sees the flags the shift left. -/
theorem shiftThenCombine : Obligations.ShiftThenCombine := fun s z w =>
  ⟨sloForms_modifiesThen s z w, rlaForms_modifiesThen s z w, sreForms_modifiesThen s z w, rraForms_modifiesThen s z w⟩

end Sys2Proof.Machine
end

section
/-! PROOFS. Control transfer and the flag instructions (spec 45_control_flow_flags R250 to R277), and the return from the
NMI entry (60_exceptions R330, R333): each shared meaning in the terms of the statements, then the bytes a return reads
back from the stack. -/

namespace Sys2Proof.Machine

open Sys2Proof.Claims

/-! ### Branches and jumps -/

/-- A branch of base cost 2, in the terms of the statements (R250). -/
theorem branch_eq_branched (taken : Bool) (d : Byte) (s : State) : branch taken d 2 s = branched taken d s := by
  cases taken with
  | false => rfl
  | true =>
    simp only [branch, branched, branchTarget_eq_target, samePage_iff, if_true]
    split <;> rfl

/-- An instruction that is `branch` at base cost 2, in the terms of the statements. -/
theorem exec_eq_branched {i : Instr} {taken : Bool} {d : Byte} {s : State}
    (h : exec i s = .next (branch taken d 2 s)) : exec i s = .next (branched taken d s) :=
  branch_eq_branched taken d s ▸ h

/-- Settles O46: every branch is `branch` at base cost 2, on its own flag. -/
theorem branchesTestOneFlag : Obligations.BranchesTestOneFlag := fun _ _ =>
  ⟨exec_eq_branched rfl, exec_eq_branched rfl, exec_eq_branched rfl, exec_eq_branched rfl,
    exec_eq_branched rfl, exec_eq_branched rfl, exec_eq_branched rfl, exec_eq_branched rfl⟩

/-- Settles O47: a jump moves `PC` to what `resolve` answers, and reads nothing there. -/
theorem jumpsSetPc : Obligations.JumpsSetPc := fun s w =>
  ⟨exec_eq_costing (t := jumpTo (.absolute w) s) rfl rfl,
    exec_eq_costing (t := jumpTo (.indirectAbsolute w) s) rfl rfl⟩

/-! ### The bytes of a pushed word -/

theorem loByte_eq_lower (w : Word) : loByte w = lower w := by
  apply BitVec.eq_of_toNat_eq
  simp [loByte, lower]

theorem join_upper_lower (w : Word) : join (upper w) (lower w) = w := by
  rw [← hiByte_eq_upper, ← loByte_eq_lower, join_hiByte_loByte]

theorem stackIndex_inj {p q : Byte} : stackIndex p = stackIndex q ↔ p = q := by
  rw [stackIndex, stackIndex, Nat.add_right_inj, BitVec.toNat_eq]

/-- A push at one `SP` leaves the stack byte at another (R190). -/
theorem read_write_stackIndex_ne (m : Memory) (v : Byte) {p q : Byte} (h : p ≠ q) :
    (m.write (stackIndex q) v).read (stackIndex p) = m.read (stackIndex p) :=
  Memory.read_write_ne m v fun he => h (stackIndex_inj.mp he)

/-- The word at `SP` and the byte below it, high byte first (R71, R260). -/
def stackWord (m : Memory) (sp : Byte) : Word := join (m.read (stackIndex sp)) (m.read (stackIndex (sp - 1)))

/-- The word two pushes write is the word two pulls read, also where `SP` wraps between its bytes. -/
theorem stackWord_of_pushes (m : Memory) (sp : Byte) (w : Word) :
    stackWord ((m.write (stackIndex sp) (upper w)).write (stackIndex (sp - 1)) (lower w)) sp = w := by
  rw [stackWord, read_write_stackIndex_ne _ _ (by bv_omega), Memory.read_write_same, Memory.read_write_same,
    join_upper_lower]

/-- The status byte above the return address does not reach its bytes (R264, R330). -/
theorem stackWord_pushedFrame (ret : Word) (p : Byte) (s : State) : stackWord (pushedFrame ret p s) s.sp = ret := by
  have hhi : s.sp ≠ s.sp - 2 := by bv_omega
  have hlo : s.sp - 1 ≠ s.sp - 2 := by bv_omega
  rw [pushedFrame, stackWord, read_write_stackIndex_ne _ _ hhi, read_write_stackIndex_ne _ _ hlo]
  exact stackWord_of_pushes s.ram s.sp ret

theorem read_pushedFrame_status (ret : Word) (p : Byte) (s : State) :
    (pushedFrame ret p s).read (stackIndex (s.sp - 2)) = p := Memory.read_write_same _ _ _

/-! ### Calls and returns -/

theorem sub_one_sub_one (sp : Byte) : sp - 1 - 1 = sp - 2 := sub_ofNat_sub_ofNat sp 1 1

theorem sub_two_sub_one (sp : Byte) : sp - 2 - 1 = sp - 3 := sub_ofNat_sub_ofNat sp 2 1

/-- JSR's pushes and jump, in the terms of the statements (R260). -/
theorem callSubroutine_eq (w : Word) (s : State) :
    callSubroutine w s = { s with
      ram := (s.ram.write (stackIndex s.sp) (upper (s.pc - 1))).write (stackIndex (s.sp - 1)) (lower (s.pc - 1))
      sp := s.sp - 2
      pc := w } := by
  rw [callSubroutine, pushWord_eq, hiByte_eq_upper, loByte_eq_lower, sub_one_sub_one]
  rfl

/-- RTS's pulls and jump, in the terms of the statements (R261). -/
theorem returnFromSubroutine_eq_join (s : State) :
    returnFromSubroutine s = { s with
      sp := s.sp + 2
      pc := join (s.ram.read (stackIndex (s.sp + 2))) (s.ram.read (stackIndex (s.sp + 1))) + 1 } := by
  rw [returnFromSubroutine_eq, wordOf_eq_join, BitVec.add_assoc s.sp 1 1]
  rfl

/-- RTI's pulls and jump, in the terms of the statements (R262). -/
theorem returnFromInterrupt_eq_join (s : State) :
    returnFromInterrupt s = { s with
      flags := setP (s.ram.read (stackIndex (s.sp + 1)))
      sp := s.sp + 3
      pc := join (s.ram.read (stackIndex (s.sp + 3))) (s.ram.read (stackIndex (s.sp + 2))) } := by
  rw [returnFromInterrupt_eq, wordOf_eq_join, BitVec.add_assoc s.sp 1 1, BitVec.add_assoc s.sp _ 1]
  rfl

/-- RTS on the word a call left on the stack: `SP` as before the call, `PC` after the call's last byte (R261). -/
theorem returnFromSubroutine_of_stackWord {t : State} {sp : Byte} (h : t.sp = sp - 2) :
    returnFromSubroutine t = { t with sp := sp, pc := stackWord t.ram sp + 1 } := by
  have h1 : sp - 2 + 1 = sp - 1 := by bv_omega
  rw [returnFromSubroutine_eq_join, h, BitVec.sub_add_cancel, h1]
  rfl

/-- RTI on what an interrupt entry left on the stack: `SP` as before the entry (R262). -/
theorem returnFromInterrupt_of_stackWord {t : State} {sp : Byte} (h : t.sp = sp - 3) :
    returnFromInterrupt t = { t with
      flags := setP (t.ram.read (stackIndex (sp - 2)))
      sp := sp
      pc := stackWord t.ram sp } := by
  have h1 : sp - 3 + 1 = sp - 2 := by bv_omega
  have h2 : sp - 3 + 2 = sp - 1 := by bv_omega
  rw [returnFromInterrupt_eq_join, h, BitVec.sub_add_cancel, h1, h2]
  rfl

/-- Settles O48: the return reads back the word the call pushed, one short of the `PC` the call found. -/
theorem callAndReturn : Obligations.CallAndReturn := by
  intro s w
  refine ⟨⟨exec_eq_costing rfl (callSubroutine_eq w s), exec_eq_costing rfl ?_⟩,
    exec_eq_costing rfl (returnFromSubroutine_eq_join s)⟩
  rw [returnFromSubroutine_of_stackWord (sp := s.sp) rfl]
  simp only [costing, stackWord_of_pushes, BitVec.sub_add_cancel]

/-- Settles O49: RTI's meaning is the return, then its cost. -/
theorem rtiRestoresStatusAndPc : Obligations.RtiRestoresStatusAndPc := fun s =>
  exec_eq_costing rfl (returnFromInterrupt_eq_join s)

/-! ### Interrupt entries -/

/-- The three pushes, in the terms of the statements (R264, R330). -/
theorem pushFrame_eq_pushedFrame (ret : Word) (p : Byte) (s : State) :
    pushFrame ret p s = { s with ram := pushedFrame ret p s, sp := s.sp - 3 } := by
  rw [pushFrame_eq, hiByte_eq_upper, loByte_eq_lower, sub_one_sub_one s.sp, sub_two_sub_one]
  rfl

/-- BRK on both paths, in the terms of the statements (R264). -/
theorem breakSequence_eq_pushedFrame (s : State) :
    breakSequence s = { s with
      ram := pushedFrame (s.pc + 1) (statusByte { s.flags with b := true }) s
      sp := s.sp - 3
      flags := { s.flags with b := true, i := true }
      pc := if s.flags.i then s.pc else romWord s 0x7FFE } := by
  rw [breakSequence_eq, hiByte_eq_upper, loByte_eq_lower, getP_eq_statusByte, wordOf_eq_join,
    sub_one_sub_one s.sp, sub_two_sub_one]
  rfl

/-- Settles O51: BRK's meaning is its sequence, then its cost on either path. -/
theorem brkPushesThenMayTakeTheVector : Obligations.BrkPushesThenMayTakeTheVector := fun s =>
  exec_eq_costing rfl (breakSequence_eq_pushedFrame s)

/-- Bit 4 of the status byte is the break flag (R34, R330): a fact about the 256 flag settings. -/
theorem getP_clear_break : ∀ f : Flags, getP f &&& 0xEF#8 = getP { f with b := false } := by
  rintro ⟨n, v, r, b, d, i, z, c⟩
  revert n v r b d i z c
  decide

/-- The NMI entry, in the terms of the statements (R330). -/
theorem nmiEntry_eq (s : State) :
    nmiEntry s = { s with
      nmiRequest := false
      ram := pushedFrame s.pc (statusByte { s.flags with b := false }) s
      sp := s.sp - 3
      flags := { s.flags with i := true }
      pc := romWord s 0x7FFA
      cycles := s.cycles + 7 } := by
  rw [nmiEntry, enterInterrupt, pushFrame_eq_pushedFrame, readVector_rom (by decide) (by decide), getP_clear_break,
    getP_eq_statusByte, wordOf_eq_join]
  rfl

/-- A CPU step that takes a pending NMI is its entry (R121, R331). -/
theorem eq_nmiEntry_of_cpuStep {s t : State} (hn : s.nmiRequest = true) (h : cpuStep s = .ok t) : t = nmiEntry s := by
  cases hf : s.fault with
  | none => simpa [cpuStep, runCpu, hf, hn, eq_comm] using h
  | some f => simp [cpuStep, hf] at h

/-- Settles O50: the return reads back the entry's frame, whose status byte has the break bit clear. -/
theorem rtiUndoesTheNmiEntry : Obligations.RtiUndoesTheNmiEntry := by
  intro s t hn hr h
  have ht : t = _ := (eq_nmiEntry_of_cpuStep hn h).trans (nmiEntry_eq s)
  have hsp : t.sp = s.sp - 3 := by rw [ht]
  have hram : t.ram = pushedFrame s.pc (statusByte { s.flags with b := false }) s := by rw [ht]
  have hflags : setP (statusByte { s.flags with b := false }) = { s.flags with b := false } := by
    rw [← getP_eq_statusByte, setP_getP, ← hr]
  have hret : returnFromInterrupt t = { t with pc := s.pc, sp := s.sp, flags := { s.flags with b := false } } := by
    rw [returnFromInterrupt_of_stackWord hsp, hram, read_pushedFrame_status, stackWord_pushedFrame, hflags]
  exact exec_eq_costing (i := .rti) (n := 6) rfl hret

/-! ### The flag instructions -/

/-- Settles O52: each is a write of one flag, or of none, then its cost. -/
theorem flagInstructionsWriteOneFlag : Obligations.FlagInstructionsWriteOneFlag := fun _ =>
  ⟨rfl, rfl, rfl, rfl, rfl, rfl, rfl, rfl⟩

end Sys2Proof.Machine
end

section
/-! PROOFS. The machine step around the CPU step (spec 60_exceptions R311 to R331, R360 to R370): the DMA drain by its page,
the NMI entry in place of a fetch, and the steps that raise. -/

namespace Sys2Proof.Machine

open Sys2Proof.Claims

section
variable {s d : State}

/-! ### The DMA drain -/

/-- Pages 1 to 7 lie in work RAM, so the drain copies (R361, R362). -/
theorem dmaDrain_of_ramPage (h1 : 1 ≤ s.dmaLatch.toNat) (h7 : s.dmaLatch.toNat ≤ 7) :
    dmaDrain s = .ok ((dmaTransfer s.dmaLatch { s with dmaLatch := 0x00 }).charge Config.dmaStall) := by
  have hlatch : s.dmaLatch ≠ 0x00 := by bv_omega
  have hrange : ¬ Config.ramSize ≤ dmaBase s.dmaLatch + 255 := by
    simp only [Config.ramSize, dmaBase]
    omega
  rw [dmaDrain, if_neg hlatch, if_neg hrange]

/-- A page of 8 and above leaves work RAM at its first index (R313, R361). -/
theorem dmaDrain_of_outsidePage (h : 8 ≤ s.dmaLatch.toNat) :
    dmaDrain s = .raised (.addressRangeViolation .workRam (s.dmaLatch.toNat * 256)) { s with dmaLatch := 0x00 } := by
  have hlatch : s.dmaLatch ≠ 0x00 := by bv_omega
  have hrange : Config.ramSize ≤ dmaBase s.dmaLatch + 255 := by
    simp only [Config.ramSize, dmaBase]
    omega
  rw [dmaDrain, if_neg hlatch, if_pos hrange]
  rfl

/-- A drain that does not raise found no request, or copied a page and charged the stall (R362). -/
theorem dmaDrain_cases (h : dmaDrain s = .ok d) :
    s.dmaLatch = 0x00 ∧ d = s ∨
    s.dmaLatch ≠ 0x00 ∧ d = (dmaTransfer s.dmaLatch { s with dmaLatch := 0x00 }).charge Config.dmaStall := by
  unfold dmaDrain at h
  split at h
  · next hlatch => exact .inl ⟨hlatch, (Progress.ok.inj h).symm⟩
  · next hlatch =>
    split at h
    · cases h
    · exact .inr ⟨hlatch, (Progress.ok.inj h).symm⟩

/-- The drain leaves alone what the CPU step looks at first, and the stall is in the cost (R362). -/
theorem dmaDrain_keeps (h : dmaDrain s = .ok d) :
    d.fault = s.fault ∧ d.nmiRequest = s.nmiRequest ∧ d.pc = s.pc ∧
    d.cycles = s.cycles + if s.dmaLatch = 0x00 then 0 else 514 := by
  obtain ⟨hlatch, rfl⟩ | ⟨hlatch, rfl⟩ := dmaDrain_cases h
  · exact ⟨rfl, rfl, rfl, by rw [if_pos hlatch, Nat.add_zero]⟩
  · exact ⟨rfl, rfl, rfl, by rw [if_neg hlatch]; rfl⟩

end

/-- Settles O9: one clause per range of pages; the copies of R360 are read back one index at a time. -/
theorem dmaDrainCopiesThePageOrRaises : Obligations.DmaDrainCopiesThePageOrRaises := by
  intro s
  refine ⟨dmaDrain_of_latch_zero, fun h1 h7 => ⟨_, dmaDrain_of_ramPage h1 h7, fun i hi => ?_, fun i hi => ?_⟩,
    dmaDrain_of_outsidePage⟩
  · exact (read_copyToOam _ _ _ _ i).trans (if_pos hi)
  · exact (read_copyToOam _ _ _ _ i).trans (if_neg (Nat.not_lt_of_le hi))

/-! ### The CPU step -/

section
variable {s d t u : State} {i : Instr} {f : Fault} {keys : Byte}

theorem cpuStep_of_nmiRequest (hf : s.fault = none) (hn : s.nmiRequest = true) : cpuStep s = .ok (nmiEntry s) := by
  simp [cpuStep, runCpu, hf, hn]

/-- A CPU step that answers a state is the NMI entry, or the instruction fetched (R121). -/
theorem cpuStep_cases (h : cpuStep s = .ok t) :
    t = nmiEntry s ∨ ∃ i u, fetchInstr s = .instr i u ∧ exec i u = .next t := by
  have hf : s.fault = none := by
    cases hf : s.fault with
    | none => rfl
    | some f => simp [cpuStep, hf] at h
  cases hn : s.nmiRequest with
  | true => exact .inl (eq_nmiEntry_of_cpuStep hn h)
  | false =>
    cases hfetch : fetchInstr s with
    | noEntry op u => simp [cpuStep, runCpu, hf, hn, hfetch] at h
    | instr i u =>
      obtain ⟨t', ht', -⟩ := exec_leads i u
      cases (cpuStep_of_fetch hf hn hfetch ht').symm.trans h
      exact .inr ⟨i, u, rfl, ht'⟩

/-- What every bus read and every move of `PC` keeps, a fetch keeps (R124). -/
theorem fetchInstr_induction {P : State → Prop} (hread : ∀ addr t, P t → P (busRead addr t).2)
    (hpc : ∀ w t, P t → P (t.setPc w)) (hs : P s) (h : fetchInstr s = .instr i u) : P u := by
  cases hop : decodeOpcode (busRead s.pc s).1 with
  | none => cases (fetchInstr_of_none hop).symm.trans h
  | some format =>
    have hop' := hread s.pc s hs
    cases format with
    | f1 mk =>
      cases (fetchInstr_of_f1 hop).symm.trans h
      exact hpc _ _ hop'
    | f2 mk =>
      cases (fetchInstr_of_f2 hop).symm.trans h
      exact hpc _ _ (hread _ _ hop')
    | f3 mk =>
      cases (fetchInstr_of_f3 hop).symm.trans h
      exact hpc _ _ (hread _ _ (hread _ _ hop'))

theorem fetchInstr_cycles (h : fetchInstr s = .instr i u) : u.cycles = s.cycles :=
  fetchInstr_induction (P := fun t => t.cycles = s.cycles)
    (fun addr t ht => (busRead_frame addr t).toWrite.cycles.trans ht) (fun _ _ ht => ht) rfl h

theorem exec_cycles (h : exec i s = .next t) : t.cycles = s.cycles + i.entry.cycles + extraCycles i s := by
  obtain ⟨t', ht', hcycles, -⟩ := everyInstructionCompletesAtItsCost i s
  cases ht'.symm.trans h
  exact hcycles

/-! ### The machine step -/

/-- A machine step that answers a state is the drain, the CPU step, then three ticks for each cycle (R370). -/
theorem step_cases (h : step s = .next t) :
    ∃ d u, dmaDrain (begun s) = .ok d ∧ cpuStep d = .ok u ∧ t = ppuRun (3 * u.cycles) u := by
  cases hf : s.fault with
  | some f => simp [step, machineStep, hf] at h
  | none =>
    have hb : beginStep (Config.hostKeys s.frameNo) s = begun s := rfl
    cases hd : dmaDrain (begun s) with
    | raised f d => simp [step, machineStep, hf, hb, hd] at h
    | refused r => simp [step, machineStep, hf, hb, hd] at h
    | ok d =>
      cases hc : cpuStep d with
      | raised f u => simp [step, machineStep, hf, hb, hd, hc] at h
      | refused r => simp [step, machineStep, hf, hb, hd, hc] at h
      | ok u => exact ⟨d, u, rfl, hc, Host.Outcome.next.inj (h.symm.trans (step_of_cpuStep hf hd hc))⟩

theorem step_of_machineStep_raised (h : machineStep (Config.hostKeys s.frameNo) s = .raised f t) :
    step s = .fault f := by
  simp only [step, h]

/-- A drain that raises ends the machine step (R370). -/
theorem machineStep_of_drain_raised (hf : s.fault = none) (hd : dmaDrain (beginStep keys s) = .raised f d) :
    machineStep keys s = .raised f (recordFault f d) := by
  simp only [machineStep, hf, hd]

/-- A CPU step that raises ends the machine step before its ticks (R312, R370). -/
theorem machineStep_of_cpuStep_raised (hf : s.fault = none) (hd : dmaDrain (beginStep keys s) = .ok d)
    (hc : cpuStep d = .raised f u) : machineStep keys s = .raised f (recordFault f u) := by
  simp only [machineStep, hf, hd, hc]

/-- With the request set the CPU step after the drain is the entry, whose 7 cycles add to the stall's (R323, R331). -/
theorem step_of_nmiRequest (hf : s.fault = none) (hn : s.nmiRequest = true) (hd : dmaDrain (begun s) = .ok d)
    {n : Nat} (hcycles : d.cycles + 7 = n) :
    ∃ t, cpuStep d = .ok t ∧ t.cycles = n ∧ step s = .next (ppuRun (3 * n) t) := by
  obtain ⟨hfault, hnmi, -, -⟩ := dmaDrain_keeps hd
  have hc : cpuStep d = .ok (nmiEntry d) := cpuStep_of_nmiRequest (hfault.trans hf) (hnmi.trans hn)
  have hcost : (nmiEntry d).cycles = n := by rw [nmiEntry_eq]; exact hcycles
  exact ⟨_, hc, hcost, hcost ▸ step_of_cpuStep hf hd hc⟩

end

/-- Settles O7: the drain and the fetch leave the stall's cycles, and the instruction charges its own. -/
theorem stepDrainsFetchesExecutesThenTicks : Obligations.StepDrainsFetchesExecutesThenTicks := by
  intro s d u t i hf hn hd hfetch hexec
  obtain ⟨hfault, hnmi, -, hcycles⟩ := dmaDrain_keeps hd
  have hstall : d.cycles = if s.dmaLatch = 0x00 then 0 else 514 := hcycles.trans (Nat.zero_add _)
  refine ⟨step_of_cpuStep hf hd (cpuStep_of_fetch (hfault.trans hf) (hnmi.trans hn) hfetch hexec), ?_⟩
  rw [exec_cycles hexec, fetchInstr_cycles hfetch, hstall]

/-- Settles O8: the step is the entry, in the terms of the statements. -/
theorem pendingNmiIsTakenInPlaceOfAFetch : Obligations.PendingNmiIsTakenInPlaceOfAFetch := by
  intro s hf hn
  rw [cpuStep_of_nmiRequest hf hn, nmiEntry_eq]

/-- Settles O12: the entry follows the drain, at its 7 cycles on the stall's 514. -/
theorem dmaThenNmiInOneStep : Obligations.DmaThenNmiInOneStep := by
  intro s hf hn
  refine ⟨fun hlatch => ?_, fun h1 h7 => ?_⟩
  · exact step_of_nmiRequest hf hn (dmaDrain_of_latch_zero hlatch) rfl
  · have hd := dmaDrain_of_ramPage (s := begun s) h1 h7
    obtain ⟨t, hc, hcycles, hstep⟩ := step_of_nmiRequest (n := 521) hf hn hd rfl
    exact ⟨_, t, hd, hc, hcycles, hstep⟩

/-- Settles O11: the drain raises for the page, or the fetch for the byte, and the fault is recorded on the state of the
raise. -/
theorem raisingStepRecordsTheFault : Obligations.RaisingStepRecordsTheFault := by
  intro s hf
  refine ⟨fun h8 => ?_, fun d hd hn hop => ?_⟩
  · have hm := machineStep_of_drain_raised hf (dmaDrain_of_outsidePage (s := begun s) h8)
    exact ⟨step_of_machineStep_raised hm, hm⟩
  · obtain ⟨hfault, hnmi, hpc, -⟩ := dmaDrain_keeps hd
    replace hpc : s.pc = d.pc := hpc.symm
    rw [hpc] at hop ⊢
    have hc := cpuStep_of_noEntry (hfault.trans hf) (hnmi.trans hn) ((decodeOpcode_eq_none_iff _).mpr hop)
    have hm := machineStep_of_cpuStep_raised hf hd hc
    exact ⟨step_of_machineStep_raised hm, hm⟩

/-- Settles O10: each transition looks at the recorded fault first. -/
theorem faultedMachineTakesNoStep : Obligations.FaultedMachineTakesNoStep := by
  intro s f keys h
  exact ⟨by simp only [machineStep, h], by simp only [cpuStep, h], by simp only [step, machineStep, h],
    by simp only [resetCpu, h]⟩

end Sys2Proof.Machine
end

section
/-! PROOFS. The PPU timing state machine (spec 60_exceptions R345 to R354): what one tick can do, said once, and what `n`
ticks make of the position in the frame, the flag, the background and the frame output. -/

namespace Sys2Proof.Machine

open Sys2Proof.Claims

/-! ### The line boundary, line by line -/

section
variable {s : State}

theorem beginVblank_of_ne (h : s.ppuLine ≠ 241) : beginVblank s = s := if_neg h

theorem endFrame_of_ne (h : s.ppuLine ≠ 262) : endFrame s = s := if_neg h

theorem buildRow_enterLine (h : ¬ (s.ppuLine + 1 ≤ 240 ∧ (s.ppuLine + 1) % 8 = 0)) :
    buildRow (enterLine s) = enterLine s := if_neg h

theorem lineBoundary_of_tileLine (hle : s.ppuLine + 1 ≤ 240) (h8 : (s.ppuLine + 1) % 8 = 0) :
    lineBoundary s = { enterLine s with
      background := (enterLine s).background ++
        [Config.buildTileRow s.vram s.chrBuffer s.cart.mirrorH (Config.scroll s.port) ((s.ppuLine + 1) / 8 - 1)] } := by
  have h241 : s.ppuLine + 1 ≠ 241 := by omega
  have h262 : s.ppuLine + 1 ≠ 262 := by omega
  rw [lineBoundary, buildRow, if_pos ⟨hle, h8⟩, beginVblank_of_ne h241, endFrame_of_ne h262]
  rfl

theorem lineBoundary_of_vblankLine (h : s.ppuLine = 240) :
    lineBoundary s = portLineEvent .vblankBegin { enterLine s with
      vblank := true, nmiRequest := s.nmiRequest || s.port.nmiEnable } := by
  have h241 : (enterLine s).ppuLine = 241 := congrArg (· + 1) h
  have h262 : (enterLine s).ppuLine ≠ 262 := by omega
  rw [lineBoundary, buildRow_enterLine (by omega), beginVblank, if_pos h241]
  exact endFrame_of_ne h262

theorem lineBoundary_of_lastLine (h : s.ppuLine = 261) :
    lineBoundary s = { portLineEvent .frameEnd { enterLine s with vblank := false } with
      ppuLine := 0
      frameNo := s.frameNo + 1
      frame := some { background := (enterLine s).background
                      sprites := Config.buildSprites s.oam s.chrBuffer s.port } } := by
  have h262 : (enterLine s).ppuLine = 262 := congrArg (· + 1) h
  rw [lineBoundary, buildRow_enterLine (by omega), beginVblank_of_ne (by omega)]
  exact if_pos h262

theorem lineBoundary_of_otherLine (hrow : ¬ (s.ppuLine + 1 ≤ 240 ∧ (s.ppuLine + 1) % 8 = 0)) (h240 : s.ppuLine ≠ 240)
    (h261 : s.ppuLine ≠ 261) : lineBoundary s = enterLine s := by
  have hline : (enterLine s).ppuLine = s.ppuLine + 1 := rfl
  rw [lineBoundary, buildRow_enterLine hrow, beginVblank_of_ne (by omega), endFrame_of_ne (by omega)]

theorem ppuTick_of_inLine (h : s.ppuCycle < 340) : ppuTick s = { s with ppuCycle := s.ppuCycle + 1 } :=
  if_pos (Nat.succ_lt_succ h)

theorem ppuTick_of_lineEnd (h : 340 ≤ s.ppuCycle) : ppuTick s = lineBoundary s :=
  if_neg (Nat.not_lt_of_le (Nat.succ_le_succ h))

end

/-- Settles O18: the tick by its cycle, the ticks in sequence with their frame, and the line boundary by its line. -/
theorem lineBoundaryEvents : Obligations.LineBoundaryEvents := by
  intro s
  refine ⟨ppuTick_of_inLine, ppuTick_of_lineEnd, ⟨rfl, fun n => ppuRun_succ n s⟩, fun n => ?_,
    lineBoundary_of_tileLine, fun h => ⟨_, ?_, ?_, lineBoundary_of_vblankLine h⟩,
    fun h => ⟨_, ?_, ?_, lineBoundary_of_lastLine h⟩, lineBoundary_of_otherLine⟩
  · obtain ⟨_, _, _, _, _, _, _, _, hr⟩ := ppuRun_frame n s
    simp only [hr]
  all_goals rfl

/-! ### What one tick can do -/

/-- `TickStep s t`: a tick may take `s` to `t`, by one of the five cases of R345 and R346; the port answers an event with
its `NmiEnable` kept (R350). -/
inductive TickStep (s : State) : State → Prop where
  | inLine (hcycle : s.ppuCycle < 340) : TickStep s { s with ppuCycle := s.ppuCycle + 1 }
  | tileLine (row : TileRow) (hcycle : 340 ≤ s.ppuCycle) (hle : s.ppuLine + 1 ≤ 240) (h8 : (s.ppuLine + 1) % 8 = 0) :
      TickStep s { enterLine s with background := (enterLine s).background ++ [row] }
  | vblankLine (code : Nat) (hcycle : 340 ≤ s.ppuCycle) (hline : s.ppuLine = 240) :
      TickStep s { enterLine s with
        vblank := true
        nmiRequest := s.nmiRequest || s.port.nmiEnable
        port := { nmiEnable := s.port.nmiEnable, code := code } }
  | lastLine (code : Nat) (sprites : SpriteList) (hcycle : 340 ≤ s.ppuCycle) (hline : s.ppuLine = 261) :
      TickStep s { enterLine s with
        vblank := false
        port := { nmiEnable := s.port.nmiEnable, code := code }
        ppuLine := 0
        frameNo := s.frameNo + 1
        frame := some { background := (enterLine s).background, sprites := sprites } }
  | otherLine (hcycle : 340 ≤ s.ppuCycle) (hrow : ¬ (s.ppuLine + 1 ≤ 240 ∧ (s.ppuLine + 1) % 8 = 0))
      (h240 : s.ppuLine ≠ 240) (h261 : s.ppuLine ≠ 261) : TickStep s (enterLine s)

theorem ppuTick_tickStep (s : State) : TickStep s (ppuTick s) := by
  by_cases hcycle : s.ppuCycle < 340
  · rw [ppuTick_of_inLine hcycle]
    exact .inLine hcycle
  have hcycle : 340 ≤ s.ppuCycle := Nat.le_of_not_lt hcycle
  rw [ppuTick_of_lineEnd hcycle]
  by_cases hrow : s.ppuLine + 1 ≤ 240 ∧ (s.ppuLine + 1) % 8 = 0
  · rw [lineBoundary_of_tileLine hrow.1 hrow.2]
    exact .tileLine _ hcycle hrow.1 hrow.2
  by_cases h240 : s.ppuLine = 240
  · rw [lineBoundary_of_vblankLine h240]
    exact .vblankLine _ hcycle h240
  by_cases h261 : s.ppuLine = 261
  · rw [lineBoundary_of_lastLine h261]
    exact .lastLine _ _ hcycle h261
  rw [lineBoundary_of_otherLine hrow h240 h261]
  exact .otherLine hcycle hrow h240 h261

@[simp] theorem enterLine_ppuCycle (s : State) : (enterLine s).ppuCycle = 0 := rfl
@[simp] theorem enterLine_ppuLine (s : State) : (enterLine s).ppuLine = s.ppuLine + 1 := rfl
@[simp] theorem enterLine_vblank (s : State) : (enterLine s).vblank = s.vblank := rfl
@[simp] theorem enterLine_nmiRequest (s : State) : (enterLine s).nmiRequest = s.nmiRequest := rfl
@[simp] theorem enterLine_port (s : State) : (enterLine s).port = s.port := rfl
@[simp] theorem enterLine_frame (s : State) : (enterLine s).frame = s.frame := rfl

theorem enterLine_background_length (s : State) :
    (enterLine s).background.length = if s.ppuLine = 0 then 0 else s.background.length := by
  rw [enterLine, apply_ite List.length]
  rfl

/-- Settles O20: of the five cases of a tick, entering line 241 alone writes the request. -/
theorem nmiIsRaisedOnlyEnteringLine241 : Obligations.NmiIsRaisedOnlyEnteringLine241 := by
  intro s
  have h := ppuTick_tickStep s
  generalize ppuTick s = t at h ⊢
  cases h with
  | inLine hcycle => simp [Nat.not_le_of_lt hcycle]
  | tileLine row hcycle hle h8 => simp [show s.ppuLine ≠ 240 by omega]
  | vblankLine code hcycle hline => simp [hcycle, hline]
  | lastLine code sprites hcycle hline => simp [hline]
  | otherLine hcycle hrow h240 h261 => simp [h240]

/-! ### The position in the frame -/

/-- The PPU's counters are in range (R353). -/
structure State.CountersInRange (s : State) : Prop where
  cycle : s.ppuCycle ≤ 340
  line : s.ppuLine ≤ 261

/-- `vblank` is true exactly on lines 241 to 261 (R353). -/
def State.VblankFollowsLine (s : State) : Prop := s.vblank = decide (241 ≤ s.ppuLine)

/-- The background holds one row per eight lines of the frame, at most 30; line 0 still shows the last frame's (R348). -/
def State.RowsFollowLine (s : State) : Prop := s.ppuLine ≠ 0 → s.background.length = min (s.ppuLine / 8) 30

section
variable {s t : State}

theorem TickStep.countersInRange (h : TickStep s t) (hs : s.CountersInRange) : t.CountersInRange := by
  obtain ⟨hcycle, hline⟩ := hs
  cases h with
  | inLine h340 => exact ⟨h340, hline⟩
  | tileLine _ _ hle _ => exact ⟨Nat.zero_le 340, show s.ppuLine + 1 ≤ 261 by omega⟩
  | vblankLine _ _ h240 => exact ⟨Nat.zero_le 340, show s.ppuLine + 1 ≤ 261 by omega⟩
  | lastLine => exact ⟨Nat.zero_le 340, Nat.zero_le 261⟩
  | otherLine _ _ _ h261 => exact ⟨Nat.zero_le 340, show s.ppuLine + 1 ≤ 261 by omega⟩

/-- A tick moves the position one on, and from the last one to 0 (R345, R346). -/
theorem TickStep.position_eq (h : TickStep s t) (hs : s.CountersInRange) : position t = (position s + 1) % 89342 := by
  obtain ⟨hcycle, hline⟩ := hs
  cases h with
  | inLine =>
    simp only [position]
    omega
  | lastLine =>
    have hlast : s.ppuLine * 341 + s.ppuCycle + 1 = 89342 := by omega
    simp [position, hlast]
  | _ =>
    simp only [position, enterLine_ppuCycle, enterLine_ppuLine]
    omega

theorem TickStep.vblankFollowsLine (h : TickStep s t) (hs : s.CountersInRange) (hv : s.VblankFollowsLine) :
    t.VblankFollowsLine := by
  obtain ⟨hcycle, hline⟩ := hs
  unfold State.VblankFollowsLine at hv ⊢
  cases h with
  | inLine _ => exact hv
  | vblankLine _ _ h240 => simp [h240]
  | lastLine => rfl
  | tileLine _ _ hle _ =>
    exact hv.trans (decide_eq_decide.mpr (show 241 ≤ s.ppuLine ↔ 241 ≤ s.ppuLine + 1 by omega))
  | otherLine _ _ h240 _ =>
    exact hv.trans (decide_eq_decide.mpr (show 241 ≤ s.ppuLine ↔ 241 ≤ s.ppuLine + 1 by omega))

/-- No tick but the frame's last writes the frame output (R352). -/
theorem TickStep.frame_of_position_lt (h : TickStep s t) (hp : position s < 89341) : t.frame = s.frame := by
  cases h with
  | lastLine _ _ hcycle hline =>
    simp only [position] at hp
    omega
  | _ => rfl

/-- The frame's last tick hands out the background as it stands, at the start of line 0 (R351, R352). -/
theorem TickStep.frame_of_position_last (h : TickStep s t) (hs : s.CountersInRange) (hp : position s = 89341) :
    t.ppuLine = 0 ∧ t.ppuCycle = 0 ∧ ∃ sprites, t.frame = some { background := s.background, sprites := sprites } := by
  obtain ⟨hcycle, hline⟩ := hs
  simp only [position] at hp
  cases h with
  | lastLine _ sprites _ h261 => exact ⟨rfl, rfl, sprites, by simp [enterLine, h261]⟩
  | inLine => omega
  | tileLine => omega
  | vblankLine => omega
  | otherLine => omega

/-- What a tick does to the number of rows: kept inside a line and at the frame's end; on entering another line, cleared
from line 0, and one more on a tile line (R346, R348, R349). -/
theorem TickStep.background_cases (h : TickStep s t) :
    (t.ppuLine = s.ppuLine ∧ t.background.length = s.background.length) ∨
    (s.ppuLine = 261 ∧ t.ppuLine = 0 ∧ t.background.length = s.background.length) ∨
    (t.ppuLine = s.ppuLine + 1 ∧ t.background.length = (if s.ppuLine = 0 then 0 else s.background.length) +
      if s.ppuLine + 1 ≤ 240 ∧ (s.ppuLine + 1) % 8 = 0 then 1 else 0) := by
  have henter := enterLine_background_length s
  cases h with
  | inLine _ => exact .inl ⟨rfl, rfl⟩
  | tileLine row _ hle h8 => exact .inr (.inr ⟨rfl, by rw [if_pos (And.intro hle h8), List.length_append, henter]; rfl⟩)
  | vblankLine _ _ h240 => exact .inr (.inr ⟨rfl, by rw [if_neg (by omega : ¬ (_ ∧ _)), henter]; rfl⟩)
  | lastLine _ _ _ h261 => exact .inr (.inl ⟨h261, rfl, by rw [henter, if_neg (by omega)]⟩)
  | otherLine _ hrow _ _ => exact .inr (.inr ⟨rfl, by rw [if_neg hrow, henter]; rfl⟩)

theorem TickStep.rowsFollowLine (h : TickStep s t) (hr : s.RowsFollowLine) : t.RowsFollowLine := by
  unfold State.RowsFollowLine at hr ⊢
  obtain ⟨hline, hrows⟩ | ⟨-, hline, -⟩ | ⟨hline, hrows⟩ := h.background_cases
  · rwa [hline, hrows]
  · exact fun hne => absurd hline hne
  · split_ifs at hrows <;> omega

end

/-! ### What `n` ticks do -/

/-- What every tick keeps, `n` ticks keep (R347). -/
theorem ppuRun_induction {P : State → Prop} (htick : ∀ s, P s → P (ppuTick s)) (n : Nat) {s : State} (hs : P s) :
    P (ppuRun n s) := by
  induction n generalizing s with
  | zero => exact hs
  | succ n ih => exact ih (htick s hs)

section
variable {s : State} (n : Nat)

theorem ppuRun_countersInRange (hs : s.CountersInRange) : (ppuRun n s).CountersInRange :=
  ppuRun_induction (P := State.CountersInRange) (fun s => (ppuTick_tickStep s).countersInRange) n hs

theorem ppuRun_vblankFollowsLine (hs : s.CountersInRange) (hv : s.VblankFollowsLine) :
    (ppuRun n s).VblankFollowsLine :=
  (ppuRun_induction (P := fun t => t.CountersInRange ∧ t.VblankFollowsLine) (fun s ⟨hc, hv⟩ =>
    ⟨(ppuTick_tickStep s).countersInRange hc, (ppuTick_tickStep s).vblankFollowsLine hc hv⟩) n ⟨hs, hv⟩).2

theorem ppuRun_rowsFollowLine (hr : s.RowsFollowLine) : (ppuRun n s).RowsFollowLine :=
  ppuRun_induction (P := State.RowsFollowLine) (fun s => (ppuTick_tickStep s).rowsFollowLine) n hr

theorem position_lt (hs : s.CountersInRange) : position s < 89342 := by
  obtain ⟨hcycle, hline⟩ := hs
  rw [position]
  omega

theorem position_ppuRun (hs : s.CountersInRange) : position (ppuRun n s) = (position s + n) % 89342 := by
  induction n with
  | zero => rw [ppuRun, Nat.add_zero, Nat.mod_eq_of_lt (position_lt hs)]
  | succ n ih =>
    rw [ppuRun_succ, (ppuTick_tickStep _).position_eq (ppuRun_countersInRange n hs), ih]
    omega

/-- Inside a frame the ticks do not write the frame output (R352, R354). -/
theorem frame_ppuRun {n : Nat} (hs : s.CountersInRange) (hn : position s + n < 89342) :
    (ppuRun n s).frame = s.frame := by
  induction n with
  | zero => rfl
  | succ n ih =>
    have hpos : position (ppuRun n s) < 89341 := by
      rw [position_ppuRun n hs]
      omega
    rw [ppuRun_succ, (ppuTick_tickStep _).frame_of_position_lt hpos]
    exact ih (by omega)

/-- The frame's last tick: what it hands out is the background of the tick before it (R351, R352, R354). -/
theorem ppuRun_to_frameEnd (hs : s.CountersInRange) :
    let t := ppuRun (89342 - position s) s
    t.ppuLine = 0 ∧ t.ppuCycle = 0 ∧
      ∃ sprites, t.frame = some { background := (ppuRun (89341 - position s) s).background, sprites := sprites } := by
  have hlt := position_lt hs
  have hlast : position (ppuRun (89341 - position s) s) = 89341 := by
    rw [position_ppuRun _ hs]
    omega
  have hn : 89342 - position s = 89341 - position s + 1 := by omega
  rw [hn, ppuRun_succ]
  exact (ppuTick_tickStep _).frame_of_position_last (ppuRun_countersInRange _ hs) hlast

end

/-- Settles O17: each tick moves the position one on, and keeps the ranges and the vblank law. -/
theorem ppuPositionAdvancesModuloTheFrame : Obligations.PpuPositionAdvancesModuloTheFrame := by
  intro n s hcycle hline hv
  have hs : s.CountersInRange := ⟨hcycle, hline⟩
  obtain ⟨hcycle', hline'⟩ := ppuRun_countersInRange n hs
  exact ⟨position_ppuRun n hs, hcycle', hline', ppuRun_vblankFollowsLine n hs hv⟩

/-- Settles O16: only the tick at the last position completes a frame. -/
theorem frameCompletesAfter89342Ticks : Obligations.FrameCompletesAfter89342Ticks := by
  refine ⟨ppuRun_add, fun s hcycle hline hframe => ?_⟩
  have hs : s.CountersInRange := ⟨hcycle, hline⟩
  obtain ⟨hline', hcycle', sprites, hframe'⟩ := ppuRun_to_frameEnd hs
  refine ⟨fun n hn => (frame_ppuRun hs (by omega)).trans hframe, ?_, hline', hcycle'⟩
  rw [hframe']
  exact Option.some_ne_none _

/-- Settles O19: the rows follow the line from line 1 on, and the frame is handed out on line 261. -/
theorem frameHasThirtyTileRows : Obligations.FrameHasThirtyTileRows := by
  intro s h0 hcycle hframe
  have hs : s.CountersInRange := ⟨hcycle, by omega⟩
  have hpos : position s = s.ppuCycle := by rw [position, h0, Nat.zero_mul, Nat.zero_add]
  have hrows (n : Nat) (h341 : 341 ≤ s.ppuCycle + n) (hlt : s.ppuCycle + n < 89342) :
      (ppuRun n s).background.length = min ((s.ppuCycle + n) / 341 / 8) 30 := by
    have hline : (ppuRun n s).ppuLine = (s.ppuCycle + n) / 341 := by
      have hp := position_ppuRun n hs
      obtain ⟨hcycle', -⟩ := ppuRun_countersInRange n hs
      rw [hpos, position] at hp
      omega
    have hfollow := ppuRun_rowsFollowLine n fun hne => absurd h0 hne
    rw [← hline]
    exact hfollow (by omega)
  obtain ⟨-, -, sprites, hlast⟩ := ppuRun_to_frameEnd hs
  rw [hpos] at hlast
  refine ⟨hrows, _, hlast, (hrows _ (by omega) (by omega)).trans ?_⟩
  omega

end Sys2Proof.Machine
end

section
/-! PROOFS. The invariant of a running machine (spec 60_exceptions R353, 10_state R32, R44): kept by each part of a machine
step, the drain, the fetch, the instruction or the NMI entry, and the ticks. -/

namespace Sys2Proof.Machine

open Sys2Proof.Claims

/-! ### Canonical memories -/

section
variable {s t : State}

theorem State.MemoriesOk.of_memory (h : s.MemoriesOk) (hm : t.memory = s.memory) : t.MemoriesOk := by
  simp only [State.memory, State.busSide, State.deviceSide, Prod.mk.injEq] at hm
  obtain ⟨⟨hram, hcart, -⟩, -, -, hvram, hchr, hoam⟩ := hm
  exact h.congr hram hvram hoam hchr hcart

theorem State.MemoriesOk.pushWord (h : s.MemoriesOk) (w : Word) : (Machine.pushWord w s).MemoriesOk :=
  (h.push _).push _

theorem State.MemoriesOk.pushFrame (h : s.MemoriesOk) (ret : Word) (p : Byte) :
    (Machine.pushFrame ret p s).MemoriesOk :=
  (h.pushWord ret).push p

/-- An implied form pushes, or writes registers only. -/
theorem State.MemoriesOk.implied {m : Mnemonic} {f : State → State} (h : s.MemoriesOk) (he : effectOf m = .implied f) :
    (f s).MemoriesOk := by
  by_cases hpush : pushes m = 0
  · exact h.of_memory (implied_memory he hpush s)
  · obtain rfl | rfl | rfl | rfl := pushing_of_pushes_ne_zero hpush <;> cases he
    · exact h.push s.a
    · exact (h.setFlags _).push _
    · have hframe := h.pushFrame (s.pc + 1) (getP { s.flags with b := true })
      rw [pushFrame_eq] at hframe
      rw [breakSequence_eq]
      exact hframe.of_memory rfl

/-- No form an instruction is built from leaves a memory's canonical form or its device's size (R44). -/
theorem Effect.Leads.memoriesOk {m : Mnemonic} {mode : Mode} (h : (effectOf m).Leads s mode t) (hs : s.MemoriesOk) :
    t.MemoriesOk := by
  generalize he : effectOf m = e at h
  cases h with
  | read src cost => exact (hs.readOperand src).of_memory (use_memory (.inl he) _ _)
  | store a cost => exact ((hs.resolve a).busWrite _ _).of_memory rfl
  | modifyA cost => exact hs.of_memory rfl
  | modify a cost => exact (hs.readModifyWrite _ a).of_memory (use_memory (.inr ⟨_, he⟩) _ _)
  | branch d cost =>
    obtain ⟨w, n, ht⟩ := branch_eq _ d cost s
    rw [ht]
    exact hs.of_memory rfl
  | jump a cost => exact (hs.resolve a).of_memory rfl
  | call w cost => exact (hs.pushWord _).of_memory rfl
  | implied cost => exact (hs.implied he).of_memory rfl

end

/-! ### The parts of a machine step -/

section
variable {s d t u : State} {i : Instr}

/-- What leaves the PPU side alone keeps the invariant if it keeps the memories canonical and the reserved flag true. -/
theorem State.Inv.of_ppuSide (h : s.Inv) (hppu : t.ppuSide = s.ppuSide) (hm : t.MemoriesOk) (hr : t.flags.r = true) :
    t.Inv := by
  simp only [State.ppuSide, Prod.mk.injEq] at hppu
  obtain ⟨-, hcycle, hline, hvblank, hbackground, -, hfault, -, -⟩ := hppu
  exact
    { memories := hm
      cycle := hcycle ▸ h.cycle
      line := hline ▸ h.line
      vblank := by rw [hvblank, hline, h.vblank]
      background := by rw [hbackground, hline]; exact h.background
      reserved := hr
      running := hfault.trans h.running }

theorem State.Inv.begun (h : s.Inv) : (begun s).Inv :=
  { h with memories := h.memories.congr rfl rfl rfl rfl rfl }

theorem State.Inv.dmaDrain (h : s.Inv) (hd : Machine.dmaDrain s = .ok d) : d.Inv := by
  obtain ⟨-, rfl⟩ | ⟨-, rfl⟩ := dmaDrain_cases hd
  · exact h
  · have hcleared : ({ s with dmaLatch := 0x00 } : State).MemoriesOk := h.memories.congr rfl rfl rfl rfl rfl
    exact h.of_ppuSide rfl ((hcleared.dmaTransfer s.dmaLatch).congr rfl rfl rfl rfl rfl) h.reserved

theorem State.Inv.busRead (h : s.Inv) (addr : Word) : (Machine.busRead addr s).2.Inv := by
  have hr : (Machine.busRead addr s).2.flags = s.flags := by
    obtain ⟨_, _, _, _, _, hframe⟩ := busRead_frame addr s
    rw [hframe]
  exact h.of_ppuSide (busRead_frame addr s).toWrite.ppuSide (h.memories.busRead addr) (hr ▸ h.reserved)

theorem State.Inv.setPc (h : s.Inv) (w : Word) : (s.setPc w).Inv :=
  h.of_ppuSide rfl (h.memories.of_memory rfl) h.reserved

theorem State.Inv.fetchInstr (h : s.Inv) (hfetch : Machine.fetchInstr s = .instr i u) : u.Inv :=
  fetchInstr_induction (P := State.Inv) (fun addr _ ht => ht.busRead addr) (fun w _ ht => ht.setPc w) h hfetch

theorem State.Inv.exec (h : s.Inv) (hexec : Machine.exec i s = .next t) : t.Inv := by
  have hl := leads_of_exec hexec
  obtain ⟨-, -, hr, -⟩ := flagsChangeOnlyAsListed i s t hexec
  exact h.of_ppuSide hl.ppuSide (hl.memoriesOk h.memories) (hr h.reserved)

/-- The NMI entry pushes, moves `PC` and sets `I` (R330). -/
theorem State.Inv.nmiEntry (h : s.Inv) : (Machine.nmiEntry s).Inv := by
  have hcleared : ({ s with nmiRequest := false } : State).Inv :=
    { h with memories := h.memories.congr rfl rfl rfl rfl rfl }
  have hframe := hcleared.memories.pushFrame s.pc (getP s.flags &&& 0xEF#8)
  rw [pushFrame_eq] at hframe
  rw [Machine.nmiEntry, enterInterrupt_eq (by decide) (by decide)]
  exact hcleared.of_ppuSide rfl (hframe.of_memory rfl) h.reserved

theorem State.Inv.cpuStep (h : s.Inv) (hc : Machine.cpuStep s = .ok t) : t.Inv := by
  obtain rfl | ⟨i, u, hfetch, hexec⟩ := cpuStep_cases hc
  · exact h.nmiEntry
  · exact (h.fetchInstr hfetch).exec hexec

/-! ### The ticks -/

theorem TickStep.background_le_rowsAt (h : TickStep s t) (hb : s.background.length ≤ rowsAt s.ppuLine) :
    t.background.length ≤ rowsAt t.ppuLine := by
  obtain ⟨hline, hrows⟩ | ⟨h261, hline, hrows⟩ | ⟨hline, hrows⟩ := h.background_cases
  · rwa [hline, hrows]
  · rw [hline, hrows]
    rwa [h261] at hb
  · rw [hline]
    unfold rowsAt at hb ⊢
    split_ifs at hb hrows ⊢ <;> omega

theorem State.Inv.of_tick (hs : s.Inv) (h : TickStep s t) (hframe : TickFrame s t) : t.Inv := by
  have hrange : s.CountersInRange := ⟨Nat.le_of_lt_succ hs.cycle, Nat.le_of_lt_succ hs.line⟩
  obtain ⟨hcycle, hline⟩ := h.countersInRange hrange
  have hvblank := h.vblankFollowsLine hrange hs.vblank
  have hbackground := h.background_le_rowsAt hs.background
  obtain ⟨_, _, _, _, _, _, _, _, rfl⟩ := hframe
  exact
    { memories := hs.memories.congr rfl rfl rfl rfl rfl
      cycle := Nat.lt_succ_of_le hcycle
      line := Nat.lt_succ_of_le hline
      vblank := hvblank
      background := hbackground
      reserved := hs.reserved
      running := hs.running }

theorem State.Inv.ppuRun (h : s.Inv) (n : Nat) : (Machine.ppuRun n s).Inv :=
  ppuRun_induction (P := State.Inv) (fun s hs => hs.of_tick (ppuTick_tickStep s) (ppuTick_frame s)) n h

end

/-- Settles O14: the drain, the CPU step and every tick keep the invariant. -/
theorem stepKeepsTheInvariant : Obligations.StepKeepsTheInvariant := by
  intro s t hs h
  obtain ⟨d, u, hd, hc, rfl⟩ := step_cases h
  exact ((hs.begun.dmaDrain hd).cpuStep hc).ppuRun _

end Sys2Proof.Machine
end

section
/-! PROOFS. The reset transition (spec 70_reset_and_hazards R380, R381), in the terms of its statement. -/

namespace Sys2Proof.Machine

open Sys2Proof.Claims

/-- The refusal of R381: one of the transitions a faulted machine does not take. -/
theorem resetCpu_of_fault_ne_none {s : State} (h : s.fault ≠ none) : resetCpu s = .refused .machineFaulted := by
  obtain ⟨f, hf⟩ := Option.ne_none_iff_exists'.mp h
  obtain ⟨-, -, -, hreset⟩ := faultedMachineTakesNoStep s f 0 hf
  exact hreset

/-- Settles O21: the vector's two bytes in program ROM, joined, are the word of the statement. -/
theorem resetReinitialisesTheRegisters : Obligations.ResetReinitialisesTheRegisters := by
  refine fun s => ⟨fun hf => ?_, resetCpu_of_fault_ne_none⟩
  rw [resetCpu_eq hf, wordOf_eq_join]
  rfl

end Sys2Proof.Machine
end
